-- ==== Sys2Proof/Word.lean ====
section
/-! DEFINITION. The word types of the host-link core (00_scope.md R8): the byte that every link unit is, and the two
integer widths that cross the core's boundary (20_memory.md R65). The core does no arithmetic on them. -/

namespace Sys2Proof

/-- R7, R8: `BYTE`, the width of every transported unit, code and payload element. -/
abbrev Byte := BitVec 8

/-- R8, R65: `u16`, an unsigned 16-bit integer (speed, acceleration, timeout). -/
abbrev U16 := BitVec 16

/-- R8, R65: `i32`, a signed 32-bit two's-complement integer, held as its bit pattern and read by `toInt`
(GOTO target, position, distance to go). -/
abbrev I32 := BitVec 32

/-- R28, R170: a 4-bit settings field, `0..15`. -/
abbrev U4 := BitVec 4

end Sys2Proof
end

