-- ==== Sys2Proof/Config.lean ====
section
/-! DEFINITION. The parameters of the host-link core (00_scope.md R7) and the types they range over. A parameter with a
value in the spec has it here; an OPEN parameter, and every answer of a collaborator that no queue of `Machine.Oracle`
supplies, is a constant with NO BODY, so that a claim holds whatever its value is (logs 1, 2, 3, 14). -/

namespace Sys2Proof

/-- R76, R132: the ten recognized commands. -/
inductive Command
  | goto | stop | home | resetPosition | reset | enable | disable | updateParameters | query | echo
  deriving DecidableEq, Repr

/-- R87: the seven recognized sub-codes of QUERY, by name. -/
inductive QuerySub
  | model | serial | firmware | faults | parameters | position | mode
  deriving DecidableEq, Repr

/-- R28: the Settings Record, with every named field at its declared width, so that R29 (no field out of its width)
holds by type. The spec counts "10 fields" (R20) and names these twelve (log 15). -/
structure Settings where
  runCurrent   : U4
  sleepCurrent : U4
  microstep    : U4
  sleepTimeout : U16
  topSpeed     : U16
  acceleration : U16
  lim1En  : Bool
  lim1Pol : Bool
  lim2En  : Bool
  lim2Pol : Bool
  homeEn  : Bool
  homePol : Bool
  deriving DecidableEq, Repr, Inhabited

/-- R91: the 10-byte settings image as it travels, its multi-byte fields assembled but nothing checked or narrowed:
a 4-bit field travels in a whole byte and can hold an out-of-range value. -/
structure SettingsImage where
  runCurrent   : Byte
  sleepCurrent : Byte
  microstep    : Byte
  sleepTimeout : U16
  topSpeed     : U16
  acceleration : U16
  flags        : Byte
  deriving DecidableEq, Repr

/-- R242: the answers of `home_status`. -/
inductive HomeStatus
  | running | done | failed
  deriving DecidableEq, Repr, Inhabited

/-- R243: the faults `poll_fault` can report. DRIVER_SYNC is not among them. -/
inductive PollFault
  | driver | limit1 | limit2 | home
  deriving DecidableEq, Repr, Inhabited

namespace Config

/-- R7: `P_CAP`, the capacity of `buf`, the code byte counted. -/
def pCap : Nat := 32

/-- R7, R72: `P_START`, ASCII `<`. -/
def pStart : Byte := 0x3C

/-- R7, R72: `P_END`, ASCII `>`. -/
def pEnd : Byte := 0x3E

/-- R7, R180: `P_VERIFY_ATTEMPTS`. -/
def verifyAttempts : Nat := 10

/-- R7, R135: `FAULT_ALLOW`, the commands accepted while Faulted. -/
def faultAllow : List Command := [.reset, .query, .echo]

/-- R7: `P_VERIFY_DELAY`, OPEN. No rule depends on its value (R302, log 14). -/
opaque verifyDelay : Nat

/-- R7, R28: `P_SETTINGS_RESET`, OPEN. Every value of the type passes `validate` (R29, log 1). -/
opaque settingsReset : Settings

/-- R209: the constraint on a text parameter: 0 to 30 ASCII characters, none of them a marker. -/
def textOk (t : List Char) : Bool :=
  decide (t.length ≤ 30) &&
    t.all fun c => decide (c.toNat < 128) && decide (c.toNat ≠ pStart.toNat) && decide (c.toNat ≠ pEnd.toNat)

/-- A text within R209's constraint is itself; one outside it, which no platform may supply, becomes the empty text
(log 2). -/
def legalText (t : List Char) : List Char := if textOk t then t else []

/-- R7: `P_MODEL_TEXT`, OPEN, before R209's constraint. -/
opaque modelTextRaw : List Char

/-- R7: `P_SERIAL_TEXT`, OPEN, before R209's constraint. -/
opaque serialTextRaw : List Char

/-- R7: `P_FIRMWARE_TEXT`, OPEN, before R209's constraint. -/
opaque firmwareTextRaw : List Char

/-- R7, R209: `P_MODEL_TEXT`. -/
def modelText : List Char := legalText modelTextRaw

/-- R7, R209: `P_SERIAL_TEXT`. -/
def serialText : List Char := legalText serialTextRaw

/-- R7, R209: `P_FIRMWARE_TEXT`. -/
def firmwareText : List Char := legalText firmwareTextRaw

/-! The free answers of R241, each applied to the count of draws made so far (log 3). -/

/-- R241, R243: what `poll_fault` answers as draw `n` when no answer is queued. -/
opaque freePollFault : Nat → Option PollFault

/-- R241, R242: what `distance_to_go` answers as draw `n` when no answer is queued. -/
opaque freeDistanceToGo : Nat → I32

/-- R241, R242: what `current_position` answers as draw `n` when no answer is queued. -/
opaque freeCurrentPosition : Nat → I32

/-- R241, R242: what `home_status` answers as draw `n` when no answer is queued. -/
opaque freeHomeStatus : Nat → HomeStatus

/-- R171, R241: what `clear_faults` answers as draw `n` when no answer is queued. -/
opaque freeClearFaults : Nat → Bool

/-- R241, R243: what `read_fault` answers as draw `n` when no answer is queued. -/
opaque freeReadFault : Nat → Byte

/-- R241, R243: what `read_diag1` answers as draw `n` when no answer is queued. -/
opaque freeReadDiag1 : Nat → Byte

/-- R241, R243: what `read_diag2` answers as draw `n` when no answer is queued. -/
opaque freeReadDiag2 : Nat → Byte

/-- R241, R243: what `verify_settings_committed` answers as draw `n` when no answer is queued. -/
opaque freeVerify : Nat → Bool

end Config
end Sys2Proof
end

