-- ==== Sys2Proof/Syntax.lean ====
section
/-! DEFINITION. The instructions of the host-link core: its command frames, one constructor per row of
spec/opcode_table.json (30_encoding.md R76, R87). -/

namespace Sys2Proof

/-- One constructor per row of the opcode table, with its operands decoded (R78). -/
inductive Instr
  /-- R151: GOTO, to an absolute target (R79). -/
  | goto (target : I32)
  /-- R152: STOP. -/
  | stop
  /-- R153: HOME. -/
  | home
  /-- R154: RESET_POSITION. -/
  | resetPosition
  /-- R172: RESET. -/
  | reset
  /-- R175: ENABLE. -/
  | enable
  /-- R176: DISABLE. -/
  | disable
  /-- R177: UPDATE_PARAMETERS, with the image as received: `validate` is part of its meaning (R138). -/
  | updateParameters (image : SettingsImage)
  /-- R200: QUERY with its sub-code byte. The decoder gives this form for a sub-code outside R87 (R201, log 10). -/
  | query (sub : Byte)
  /-- R210: ECHO, with its 0 to 31 argument bytes. -/
  | echo (data : List Byte)
  /-- R202: QUERY(MODEL). -/
  | queryModel
  /-- R203: QUERY(SERIAL). -/
  | querySerial
  /-- R204: QUERY(FIRMWARE). -/
  | queryFirmware
  /-- R205: QUERY(FAULTS). -/
  | queryFaults
  /-- R206: QUERY(PARAMETERS). -/
  | queryParameters
  /-- R207: QUERY(POSITION). -/
  | queryPosition
  /-- R208: QUERY(MODE). -/
  | queryMode
  deriving DecidableEq, Repr

end Sys2Proof
end

