-- ==== Sys2Proof/Decode.lean ====
section
/-! DEFINITION. The encoding of commands (30_encoding.md): the code tables, big-endian assembly (20_memory.md R51), the
frame split, the decoder (total, rejecting by name) and the encoder. -/

namespace Sys2Proof

/-! ## Code tables -/

/-- R76: the code byte of each command. -/
def Command.code : Command → Byte
  | .goto             => 0x47
  | .stop             => 0x53
  | .home             => 0x48
  | .resetPosition    => 0x5A
  | .reset            => 0x52
  | .enable           => 0x4E
  | .disable          => 0x44
  | .updateParameters => 0x50
  | .query            => 0x51
  | .echo             => 0x45

/-- R132: the recognized command set. -/
def Command.all : List Command :=
  [.goto, .stop, .home, .resetPosition, .reset, .enable, .disable, .updateParameters, .query, .echo]

/-- R76, R77: the command of a code byte, matched whole; `none` for the 244 unrecognized codes and the two markers. -/
def Command.ofCode? (b : Byte) : Option Command := Command.all.find? fun c => c.code == b

/-- R76, R78, R137: `len ∈ ArgLen(cmd)`. -/
def Command.argLenOk : Command → Nat → Bool
  | .goto,             n => n == 4
  | .stop,             n => n == 0
  | .home,             n => n == 0
  | .resetPosition,    n => n == 0
  | .reset,            n => n == 0
  | .enable,           n => n == 0
  | .disable,          n => n == 0
  | .updateParameters, n => n == 10
  | .query,            n => n == 1
  | .echo,             n => decide (n ≤ 31)

/-- R87: the byte of each QUERY sub-code. -/
def QuerySub.code : QuerySub → Byte
  | .model      => 0x4D
  | .serial     => 0x53
  | .firmware   => 0x56
  | .faults     => 0x46
  | .parameters => 0x50
  | .position   => 0x58
  | .mode       => 0x4F

/-- R87: the recognized sub-codes. -/
def QuerySub.all : List QuerySub := [.model, .serial, .firmware, .faults, .parameters, .position, .mode]

/-- R80, R87: the sub-code a byte names, compared whole; `none` for every other byte (R201). -/
def QuerySub.ofCode? (b : Byte) : Option QuerySub := QuerySub.all.find? fun q => q.code == b

/-- R71: the byte acts as a marker, wherever it stands. -/
def isMarker (b : Byte) : Bool := b == Config.pStart || b == Config.pEnd

/-! ## Byte order (R8, R51) -/

/-- R8: `be16(b0, b1) = zext_16(b0)·256 + zext_16(b1)`. -/
def be16 (b0 b1 : Byte) : U16 := b0.setWidth 16 * 256 + b1.setWidth 16

/-- R91: the inverse of `be16`. -/
def be16Bytes (v : U16) : List Byte := [v.extractLsb' 8 8, v.extractLsb' 0 8]

/-- R8: `be32s`, the i32 whose bit pattern is the four bytes, most-significant first. -/
def be32s (b0 b1 b2 b3 : Byte) : I32 := b0 ++ b1 ++ b2 ++ b3

/-- R8: `be32bytes`, the inverse of `be32s`. -/
def be32Bytes (v : I32) : List Byte :=
  [v.extractLsb' 24 8, v.extractLsb' 16 8, v.extractLsb' 8 8, v.extractLsb' 0 8]

/-! ## Frames (R75, R112) -/

/-- R109, R112: a frame as `take_frame` hands it over. -/
structure Frame where
  code : Byte
  args : List Byte
  deriving DecidableEq, Repr

/-- R75: the buffer bytes of a frame, the code byte first. -/
def Frame.bytes (f : Frame) : List Byte := f.code :: f.args

/-- R75: the frame split; `none` for an empty buffer, which has no code byte. -/
def Frame.ofBytes? : List Byte → Option Frame
  | []        => none
  | c :: args => some ⟨c, args⟩

/-- Why bytes are no instruction. The Dispatch phase answers each as 41_dispatcher.md says. -/
inductive Reject
  /-- No code byte at all: the codec never delivers this (R104). -/
  | emptyBuffer
  /-- R77, R134: check 1 fails. -/
  | unknownCommand (code : Byte)
  /-- R78, R137: the command is recognized and its argument count is wrong. -/
  | malformedLength (cmd : Command)
  deriving DecidableEq, Repr

/-! ## The decoder -/

/-- R91: the settings image read from the ten argument bytes at offsets 0 to 9. -/
def decodeImage (a0 a1 a2 a3 a4 a5 a6 a7 a8 a9 : Byte) : SettingsImage :=
  { runCurrent := a0, sleepCurrent := a1, microstep := a2, sleepTimeout := be16 a3 a4, topSpeed := be16 a5 a6,
    acceleration := be16 a7 a8, flags := a9 }

/-- R80, R87, R200: the QUERY form a sub-code byte selects. -/
def decodeQuery (sub : Byte) : Instr :=
  match QuerySub.ofCode? sub with
  | some .model      => .queryModel
  | some .serial     => .querySerial
  | some .firmware   => .queryFirmware
  | some .faults     => .queryFaults
  | some .parameters => .queryParameters
  | some .position   => .queryPosition
  | some .mode       => .queryMode
  | none             => .query sub

/-- R78: a command's arguments by its layout; `none` when their number is wrong. -/
def decodeArgs (cmd : Command) (args : List Byte) : Option Instr :=
  match cmd with
  | .goto =>
    match args with
    | [a0, a1, a2, a3] => some (.goto (be32s a0 a1 a2 a3))
    | _ => none
  | .stop          => if args = [] then some .stop else none
  | .home          => if args = [] then some .home else none
  | .resetPosition => if args = [] then some .resetPosition else none
  | .reset         => if args = [] then some .reset else none
  | .enable        => if args = [] then some .enable else none
  | .disable       => if args = [] then some .disable else none
  | .updateParameters =>
    match args with
    | [a0, a1, a2, a3, a4, a5, a6, a7, a8, a9] =>
      some (.updateParameters (decodeImage a0 a1 a2 a3 a4 a5 a6 a7 a8 a9))
    | _ => none
  | .query =>
    match args with
    | [sub] => some (decodeQuery sub)
    | _ => none
  | .echo => if args.length ≤ 31 then some (.echo args) else none

/-- The decoder: the instruction a frame holds, or the name of why it holds none (R76, R77, R78, R93). -/
def decode (f : Frame) : Except Reject Instr :=
  match Command.ofCode? f.code with
  | none => .error (.unknownCommand f.code)
  | some cmd =>
    match decodeArgs cmd f.args with
    | none   => .error (.malformedLength cmd)
    | some i => .ok i

/-- The decoder on any bytes between two markers (R75). -/
def decodeBytes (bytes : List Byte) : Except Reject Instr :=
  match Frame.ofBytes? bytes with
  | none   => .error .emptyBuffer
  | some f => decode f

/-! ## The encoder (R76, R87, R91) -/

/-- R91: the ten bytes of a settings image. -/
def encodeImage (m : SettingsImage) : List Byte :=
  [m.runCurrent, m.sleepCurrent, m.microstep] ++ be16Bytes m.sleepTimeout ++ be16Bytes m.topSpeed
    ++ be16Bytes m.acceleration ++ [m.flags]

/-- R95: the frame of each instruction. -/
def encode : Instr → Frame
  | .goto target        => ⟨Command.goto.code, be32Bytes target⟩
  | .stop               => ⟨Command.stop.code, []⟩
  | .home               => ⟨Command.home.code, []⟩
  | .resetPosition      => ⟨Command.resetPosition.code, []⟩
  | .reset              => ⟨Command.reset.code, []⟩
  | .enable             => ⟨Command.enable.code, []⟩
  | .disable            => ⟨Command.disable.code, []⟩
  | .updateParameters m => ⟨Command.updateParameters.code, encodeImage m⟩
  | .query sub          => ⟨Command.query.code, [sub]⟩
  | .echo data          => ⟨Command.echo.code, data⟩
  | .queryModel         => ⟨Command.query.code, [QuerySub.model.code]⟩
  | .querySerial        => ⟨Command.query.code, [QuerySub.serial.code]⟩
  | .queryFirmware      => ⟨Command.query.code, [QuerySub.firmware.code]⟩
  | .queryFaults        => ⟨Command.query.code, [QuerySub.faults.code]⟩
  | .queryParameters    => ⟨Command.query.code, [QuerySub.parameters.code]⟩
  | .queryPosition      => ⟨Command.query.code, [QuerySub.position.code]⟩
  | .queryMode          => ⟨Command.query.code, [QuerySub.mode.code]⟩

/-- R70: the bytes of an instruction on the wire, its markers with it. -/
def wireBytes (i : Instr) : List Byte := Config.pStart :: (encode i).bytes ++ [Config.pEnd]

/-- R71, R295: no byte between the markers is itself a marker, so the codec delivers the frame whole. -/
def deliverable (i : Instr) : Bool := (encode i).bytes.all fun b => !isMarker b

/-! ## The opcode table's words (log 11) -/

/-- The `n` bytes of a table word, most-significant first (R51): a row's own words say that `buf[0]` is the high byte. -/
def wordBytes : Nat → Nat → List Byte
  | 0,     _ => []
  | n + 1, w => wordBytes n (w / 256) ++ [BitVec.ofNat 8 w]

/-- The least number of argument bytes a command takes (R76). -/
def Command.minArgs : Command → Nat
  | .goto             => 4
  | .stop             => 0
  | .home             => 0
  | .resetPosition    => 0
  | .reset            => 0
  | .enable           => 0
  | .disable          => 0
  | .updateParameters => 10
  | .query            => 1
  | .echo             => 0

/-- The buffer bytes of a table word: its own bytes, and zero for every argument byte the table gives no bits. -/
def tableBytes (nbits w : Nat) : List Byte :=
  match wordBytes ((nbits + 7) / 8) w with
  | [] => []
  | c :: args =>
    match Command.ofCode? c with
    | none     => c :: args
    | some cmd => c :: args ++ List.replicate (cmd.minArgs - args.length) 0

/-- The instruction the decoder reads from a word of spec/opcode_table.json. -/
def decodeTableWord (nbits w : Nat) : Option Instr :=
  match decodeBytes (tableBytes nbits w) with
  | .ok i    => some i
  | .error _ => none

end Sys2Proof
end

