-- ==== Sys2Proof/WellFormed.lean ====
section
/-! DEFINITION. Which terms of `Instr` stand for a command frame: their operands lie in the ranges the spec gives. An
operand whose type has exactly the spec's range (GOTO's i32, the settings image) needs no check: an image that `validate`
refuses is a well-formed command with a reply of its own (R182). -/

namespace Sys2Proof

/-- R210: ECHO takes 0 to 31 argument bytes. -/
def echoFits (data : List Byte) : Bool := decide (data.length ≤ 31)

/-- R112, R210: none of ECHO's bytes is a marker. -/
def echoMarkerFree (data : List Byte) : Bool := data.all fun b => !isMarker b

/-- R201: the QUERY form with a free sub-code is the one for sub-codes outside R87's table; the seven have their own. -/
def querySubUnlisted (sub : Byte) : Bool := (QuerySub.ofCode? sub).isNone

/-- R112: a sub-code byte is no marker. -/
def querySubMarkerFree (sub : Byte) : Bool := !isMarker sub

/-- The instruction stands for exactly one command frame. -/
def WellFormed : Instr → Bool
  | .goto _             => true
  | .stop               => true
  | .home               => true
  | .resetPosition      => true
  | .reset              => true
  | .enable             => true
  | .disable            => true
  | .updateParameters _ => true
  | .query sub          => querySubUnlisted sub && querySubMarkerFree sub
  | .echo data          => echoFits data && echoMarkerFree data
  | .queryModel         => true
  | .querySerial        => true
  | .queryFirmware      => true
  | .queryFaults        => true
  | .queryParameters    => true
  | .queryPosition      => true
  | .queryMode          => true

end Sys2Proof
end

