-- ==== Sys2Proof/Machine/State.lean ====
section
/-! DEFINITION. The state of the host-link core as plain data (10_state.md R20 to R36), the reasons a step can stop, and
the machine right after reset (70_reset_and_hazards.md R290). -/

namespace Sys2Proof.Machine

/-- R21: the Receiver State. -/
inductive RxState
  | waiting | reading | pending
  deriving DecidableEq, Repr

/-- R23: the Controller State, a closed set (C8). -/
inductive Ctrl
  | idle | moving | homing | faulted | disabled
  deriving DecidableEq, Repr

/-- R24: the control-loop phase register. -/
inductive Phase
  | service | ingest | dispatch
  deriving DecidableEq, Repr

/-- R27: what the fault latch can hold. NACK and INVALID_PARAMETERS are never latched. -/
inductive FaultCause
  | driver | driverSync | limit1 | limit2 | home
  deriving DecidableEq, Repr

/-- R86: the fault sub-codes a FAULT reply carries. -/
inductive FaultCode
  | nack | driver | driverSync | invalidParameters | limit1 | limit2 | home
  deriving DecidableEq, Repr

/-- R84: the reply codes. -/
inductive ReplyCode
  | ack | done | fault | echo
  deriving DecidableEq, Repr

/-- R9, R130: `reply(code, payload)`, what `handle` returns. -/
structure Reply where
  code    : ReplyCode
  payload : List Byte
  deriving DecidableEq, Repr

/-- R100, R261: why the codec discarded a frame. -/
inductive FramingError
  | doubleStart | emptyPayload | overflow
  deriving DecidableEq, Repr

/-- R31, R100: a codec result other than None. -/
inductive CodecEvent
  | frameReady
  | error (reason : FramingError)
  deriving DecidableEq, Repr

/-- R31, R241: one collaborator call, with its arguments and its answer (R242, R243). -/
inductive Call
  | moveTo (steps : I32)
  | stop
  | currentPosition (answer : I32)
  | distanceToGo (answer : I32)
  | setSpeedLimits (maxSpeed accel : U16)
  | home
  | homeStatus (answer : HomeStatus)
  | zeroPosition
  | enable
  | disable
  | setCurrent (level : U4)
  | setMicrostep (mode : U4)
  | clearFaults (answer : Bool)
  | readFault (answer : Byte)
  | readDiag1 (answer : Byte)
  | readDiag2 (answer : Byte)
  | verifySettingsCommitted (answer : Bool)
  | pollFault (answer : Option PollFault)
  deriving DecidableEq, Repr

/-- R60: one observable action of the core. The three logs of R31 are the entries of each kind (log 5). -/
inductive Event
  /-- R31: an entry of `calls`. -/
  | call (c : Call)
  /-- R31, R224: one frame written to the transport, an entry of `tx`. -/
  | sent (frame : List Byte)
  /-- R31, R110: an entry of `diag`. -/
  | codec (e : CodecEvent)
  deriving DecidableEq, Repr

/-- The MODEL's own field, not the spec's: the collaborators' coming answers, one queue for each answering call (R241 to
R243), and how many answers have been drawn. A call whose queue is empty gets the free value of that count (log 3). -/
structure Oracle where
  pollFault       : List (Option PollFault)
  distanceToGo    : List I32
  currentPosition : List I32
  homeStatus      : List HomeStatus
  clearFaults     : List Bool
  readFault       : List Byte
  readDiag1       : List Byte
  readDiag2       : List Byte
  verify          : List Bool
  draws           : Nat
  deriving DecidableEq, Repr

/-- Why a step stops with a fault. No rule of the spec stops the core (R248, R274): each of these names a combination that
no rule covers, as R248 asks, and no run from reset reaches one. -/
inductive Fault
  /-- R109: `take_frame` in Pending reads `buf[0]` of an empty buffer. Raised by `takeFrame`. Safe (log 6). -/
  | pendingFrameEmpty
  /-- R106, R108: a DATA byte in Reading with more than `P_CAP` bytes in `buf`. Raised by `feed`. Safe (log 7). -/
  | bufferOverCapacity
  /-- R172, R205: the latched cause is to be reported, `ctrl` is Faulted and `cause` is None. Raised by the meanings of
  RESET, QUERY and QUERY(FAULTS). Safe (log 8). -/
  | latchWithoutCause
  deriving DecidableEq, Repr

/-- Why an instruction has no meaning. -/
inductive Refusal
  /-- The instruction is not modelled. Raised by no arm of `exec`: every row of the table has its meaning. Safe. -/
  | notModelled (mnemonic : String)
  deriving DecidableEq, Repr

/-- R20, R32: the whole state of the core and the transport's receive queue. -/
structure State where
  /-- R21: `rx_state`. -/
  rxState  : RxState
  /-- R22: `buf`, the bytes received since a start marker. -/
  buf      : List Byte
  /-- R23: `ctrl`. -/
  ctrl     : Ctrl
  /-- R24: `phase`. -/
  phase    : Phase
  /-- R25: `drv_en`. -/
  drvEn    : Bool
  /-- R27: `cause`, the fault latch. -/
  cause    : Option FaultCause
  /-- R28: `settings`. -/
  settings : Settings
  /-- R31, R60: the logs `tx`, `calls` and `diag` as one event history, oldest first (log 5). -/
  history  : List Event
  /-- R32: `rx_q`, the transport's queue of bytes not yet read, oldest first. -/
  rxQ      : List Byte
  /-- The model's own: the coming answers of R241 (log 3). -/
  oracle   : Oracle
  deriving DecidableEq, Repr

/-- R31: the list of frames emitted, one per write. -/
def State.frames (s : State) : List (List Byte) :=
  s.history.filterMap fun e => match e with | .sent f => some f | _ => none

/-- R31: `tx`, the byte sequence written to the transport. -/
def State.tx (s : State) : List Byte := s.frames.flatten

/-- R31: `calls`. -/
def State.calls (s : State) : List Call :=
  s.history.filterMap fun e => match e with | .call c => some c | _ => none

/-- R31: `diag`. -/
def State.diag (s : State) : List CodecEvent :=
  s.history.filterMap fun e => match e with | .codec c => some c | _ => none

/-- No answer is queued and none has been drawn (log 4). -/
def Oracle.unset : Oracle :=
  { pollFault := [], distanceToGo := [], currentPosition := [], homeStatus := [], clearFaults := [], readFault := [],
    readDiag1 := [], readDiag2 := [], verify := [], draws := 0 }

/-- R290: the machine right after reset. -/
def State.reset : State :=
  { rxState := .waiting, buf := [], ctrl := .disabled, phase := .service, drvEn := false, cause := none,
    settings := Config.settingsReset, history := [], rxQ := [], oracle := Oracle.unset }

end Sys2Proof.Machine
end

