-- ==== Sys2Proof/Machine/Encoder.lean ====
section
/-! DEFINITION. The Reply Encoder (45_reply_encoder.md) and the reply tables (30_encoding.md R84, R86, R89). -/

namespace Sys2Proof.Machine

/-- R84: the reply code table. -/
def ReplyCode.byte : ReplyCode → Byte
  | .ack   => 0x41
  | .done  => 0x44
  | .fault => 0x46
  | .echo  => 0x45

/-- R86: the fault sub-code table. -/
def FaultCode.byte : FaultCode → Byte
  | .nack              => 0x01
  | .driver            => 0x02
  | .driverSync        => 0x03
  | .invalidParameters => 0x04
  | .limit1            => 0x05
  | .limit2            => 0x06
  | .home              => 0x07

/-- R27, R86: the sub-code of a latched cause. -/
def FaultCause.code : FaultCause → FaultCode
  | .driver     => .driver
  | .driverSync => .driverSync
  | .limit1     => .limit1
  | .limit2     => .limit2
  | .home       => .home

/-- R89: the controller state codes of QUERY(MODE). -/
def Ctrl.stateCode : Ctrl → Byte
  | .idle     => 0x00
  | .moving   => 0x01
  | .homing   => 0x02
  | .faulted  => 0x03
  | .disabled => 0x04

/-- R220, R225: `encode(code, payload)`, with no escaping. -/
def encodeReply (code : Byte) (payload : List Byte) : List Byte :=
  [Config.pStart, code] ++ payload ++ [Config.pEnd]

/-- R221: the zero-payload form. -/
def encode0 (code : Byte) : List Byte := encodeReply code []

/-- R222: the single-byte form. -/
def encode1 (code b : Byte) : List Byte := encodeReply code [b]

/-- R223: `ascii_bytes(s)`, one byte per character, no terminator. -/
def asciiBytes (t : List Char) : List Byte := t.map fun c => BitVec.ofNat 8 c.toNat

/-- R223: the text form. -/
def encodeT (code : Byte) (t : List Char) : List Byte := encodeReply code (asciiBytes t)

/-- R70, R85: the frame of a reply. -/
def Reply.frame (r : Reply) : List Byte := encodeReply r.code.byte r.payload

/-- R84, R85: ACK without data. -/
def Reply.ack : Reply := ⟨.ack, []⟩

/-- R84, R85: DONE. -/
def Reply.done : Reply := ⟨.done, []⟩

/-- R84, R85: FAULT(c), its payload exactly the sub-code. -/
def Reply.fault (c : FaultCode) : Reply := ⟨.fault, [c.byte]⟩

/-- R88: a QUERY data reply, an ACK whose payload starts with the sub-code byte. -/
def Reply.data (sub : QuerySub) (bytes : List Byte) : Reply := ⟨.ack, sub.code :: bytes⟩

/-- R202, R223: a QUERY text reply. -/
def Reply.text (sub : QuerySub) (t : List Char) : Reply := Reply.data sub (asciiBytes t)

/-- R84, R210: ECHO(data). -/
def Reply.echo (bytes : List Byte) : Reply := ⟨.echo, bytes⟩

end Sys2Proof.Machine
end

