-- ==== Sys2Proof/Machine/Codec.lean ====
section
/-! DEFINITION. The Frame Codec (40_frame_codec.md): `feed`, one case per rule R101 to R108, and `take_frame`. It reads and
writes `rx_state`, `buf` and the event history only. -/

namespace Sys2Proof.Machine

/-- R71: the class of an inbound byte. -/
inductive ByteClass
  | start | stop | data
  deriving DecidableEq, Repr

/-- R71, R111: START is checked first, then END, then DATA. -/
def classOf (b : Byte) : ByteClass :=
  if b = Config.pStart then .start else if b = Config.pEnd then .stop else .data

/-- R110: an event other than None is appended to `diag`. -/
def State.logCodec (s : State) (e : Option CodecEvent) : State :=
  match e with
  | none   => s
  | some e => { s with history := s.history ++ [.codec e] }

/-- R101: a start marker opens a frame: Reading, with an empty buffer. -/
def State.startFrame (s : State) : State := { s with rxState := .reading, buf := [] }

/-- R106: `append(buf, b)`. -/
def State.appendByte (s : State) (b : Byte) : State := { s with buf := s.buf ++ [b] }

/-- R105: an end marker completes the frame: Pending, the buffer unchanged, FrameReady logged. -/
def State.completeFrame (s : State) : State := { s with rxState := .pending }.logCodec (some .frameReady)

/-- R109: the frame has been taken: Waiting, with an empty buffer. -/
def State.releaseFrame (s : State) : State := { s with rxState := .waiting, buf := [] }

/-- R103, R104, R108: the codec discards the buffer, returns to Waiting and raises a FramingError. -/
def State.discardFrame (s : State) (r : FramingError) : State :=
  s.releaseFrame.logCodec (some (.error r))

/-- R101, R102: `feed` in Waiting. -/
def feedWaiting (b : Byte) (s : State) : State :=
  match classOf b with
  | .start => s.startFrame
  | .stop  => s
  | .data  => s

/-- R103 to R106, R108: `feed` in Reading. -/
def feedReading (b : Byte) (s : State) : Except Fault State :=
  match classOf b with
  | .start => .ok (s.discardFrame .doubleStart)
  | .stop  =>
    if s.buf.length = 0 then .ok (s.discardFrame .emptyPayload)
    else .ok s.completeFrame
  | .data  =>
    if s.buf.length < Config.pCap then .ok (s.appendByte b)
    else if s.buf.length = Config.pCap then .ok (s.discardFrame .overflow)
    else .error .bufferOverCapacity

/-- R100, R116: `feed(b)`, its event logged (R110). In Pending the byte is dropped (R107). -/
def feed (b : Byte) (s : State) : Except Fault State :=
  match s.rxState with
  | .waiting => .ok (feedWaiting b s)
  | .reading => feedReading b s
  | .pending => .ok s

/-- R100: `feed` on each byte of a sequence, in arrival order. -/
def feedAll : List Byte → State → Except Fault State
  | [],      s => .ok s
  | b :: bs, s =>
    match feed b s with
    | .ok s'   => feedAll bs s'
    | .error e => .error e

/-- R109: `take_frame()`: the buffered frame, if one is Pending, and the state after it. -/
def takeFrame (s : State) : Except Fault (Option Frame × State) :=
  match s.rxState with
  | .pending =>
    match Frame.ofBytes? s.buf with
    | some f => .ok (some f, s.releaseFrame)
    | none   => .error .pendingFrameEmpty
  | .reading => .ok (none, s)
  | .waiting => .ok (none, s)

/-- The codec as it stands when `bytes` have been received as one frame (R105). -/
def State.holdFrame (s : State) (bytes : List Byte) : State := { s with rxState := .pending, buf := bytes }

end Sys2Proof.Machine
end

