-- ==== Sys2Proof/Machine/Ops.lean ====
section
/-! DEFINITION. The operations every rule uses to touch the world (00_scope.md R9): collaborator calls (46_control_loop.md
R241 to R243), emission (R224), taking a fault (60_exceptions.md R266) and leaving it (R272). -/

namespace Sys2Proof.Machine

/-! ## Writes of single elements (R9: `x <- v`) -/

/-- R23: `ctrl <- c`. -/
def State.setCtrl (s : State) (c : Ctrl) : State := { s with ctrl := c }

/-- R24: `phase <- p`. -/
def State.setPhase (s : State) (p : Phase) : State := { s with phase := p }

/-- R181: `settings <- r`, the whole record at once. -/
def State.setSettings (s : State) (r : Settings) : State := { s with settings := r }

/-- R244: `read_byte()` removes the head of `rx_q`. -/
def State.dropRead (s : State) : State := { s with rxQ := s.rxQ.tail }

/-! ## Collaborator calls -/

/-- R241: a call of type unit: it is appended to `calls` and answers nothing. -/
def State.call (s : State) (c : Call) : State := { s with history := s.history ++ [.call c] }

/-- R242, R243: what `poll_fault` answers next. -/
def State.nextPollFault (s : State) : Option PollFault :=
  s.oracle.pollFault.headD (Config.freePollFault s.oracle.draws)

/-- R242: what `distance_to_go` answers next. -/
def State.nextDistanceToGo (s : State) : I32 :=
  s.oracle.distanceToGo.headD (Config.freeDistanceToGo s.oracle.draws)

/-- R242: what `current_position` answers next. -/
def State.nextCurrentPosition (s : State) : I32 :=
  s.oracle.currentPosition.headD (Config.freeCurrentPosition s.oracle.draws)

/-- R242: what `home_status` answers next. -/
def State.nextHomeStatus (s : State) : HomeStatus :=
  s.oracle.homeStatus.headD (Config.freeHomeStatus s.oracle.draws)

/-- R171, R243: what `clear_faults` answers next. -/
def State.nextClearFaults (s : State) : Bool :=
  s.oracle.clearFaults.headD (Config.freeClearFaults s.oracle.draws)

/-- R243: what `read_fault` answers next. -/
def State.nextReadFault (s : State) : Byte :=
  s.oracle.readFault.headD (Config.freeReadFault s.oracle.draws)

/-- R243: what `read_diag1` answers next. -/
def State.nextReadDiag1 (s : State) : Byte :=
  s.oracle.readDiag1.headD (Config.freeReadDiag1 s.oracle.draws)

/-- R243: what `read_diag2` answers next. -/
def State.nextReadDiag2 (s : State) : Byte :=
  s.oracle.readDiag2.headD (Config.freeReadDiag2 s.oracle.draws)

/-- R243: what `verify_settings_committed` answers next. -/
def State.nextVerify (s : State) : Bool :=
  s.oracle.verify.headD (Config.freeVerify s.oracle.draws)

/-- R180, R243: what `verify_settings_committed` answers after `k` more calls of it have been answered. -/
def State.verifyAnswer (s : State) (k : Nat) : Bool :=
  (s.oracle.verify[k]?).getD (Config.freeVerify (s.oracle.draws + k))

/-- `Call(poll_fault)`. -/
def State.callPollFault (s : State) : State :=
  { s with oracle := { s.oracle with pollFault := s.oracle.pollFault.tail, draws := s.oracle.draws + 1 } }.call
    (.pollFault s.nextPollFault)

/-- `Call(distance_to_go)`. -/
def State.callDistanceToGo (s : State) : State :=
  { s with oracle := { s.oracle with distanceToGo := s.oracle.distanceToGo.tail, draws := s.oracle.draws + 1 } }.call
    (.distanceToGo s.nextDistanceToGo)

/-- `Call(current_position)`. -/
def State.callCurrentPosition (s : State) : State :=
  { s with oracle :=
    { s.oracle with currentPosition := s.oracle.currentPosition.tail, draws := s.oracle.draws + 1 } }.call
    (.currentPosition s.nextCurrentPosition)

/-- `Call(home_status)`. -/
def State.callHomeStatus (s : State) : State :=
  { s with oracle := { s.oracle with homeStatus := s.oracle.homeStatus.tail, draws := s.oracle.draws + 1 } }.call
    (.homeStatus s.nextHomeStatus)

/-- `Call(clear_faults)`. -/
def State.callClearFaults (s : State) : State :=
  { s with oracle := { s.oracle with clearFaults := s.oracle.clearFaults.tail, draws := s.oracle.draws + 1 } }.call
    (.clearFaults s.nextClearFaults)

/-- `Call(read_fault)`. -/
def State.callReadFault (s : State) : State :=
  { s with oracle := { s.oracle with readFault := s.oracle.readFault.tail, draws := s.oracle.draws + 1 } }.call
    (.readFault s.nextReadFault)

/-- `Call(read_diag1)`. -/
def State.callReadDiag1 (s : State) : State :=
  { s with oracle := { s.oracle with readDiag1 := s.oracle.readDiag1.tail, draws := s.oracle.draws + 1 } }.call
    (.readDiag1 s.nextReadDiag1)

/-- `Call(read_diag2)`. -/
def State.callReadDiag2 (s : State) : State :=
  { s with oracle := { s.oracle with readDiag2 := s.oracle.readDiag2.tail, draws := s.oracle.draws + 1 } }.call
    (.readDiag2 s.nextReadDiag2)

/-- `Call(verify_settings_committed)`. -/
def State.callVerify (s : State) : State :=
  { s with oracle := { s.oracle with verify := s.oracle.verify.tail, draws := s.oracle.draws + 1 } }.call
    (.verifySettingsCommitted s.nextVerify)

/-- R180: `delay(P_VERIFY_DELAY)`, "no state effect; not modelled as time" (log 14). -/
def State.delay (s : State) (_duration : Nat) : State := s

/-! ## Emission -/

/-- R9, R224: `Emit(code, payload)`: the whole frame in one write. -/
def State.emit (s : State) (r : Reply) : State := { s with history := s.history ++ [.sent r.frame] }

/-! ## Taking a fault, and leaving it -/

/-- R263: the cause each answer of `poll_fault` is latched as. -/
def causeOf : PollFault → FaultCause
  | .driver => .driver
  | .limit1 => .limit1
  | .limit2 => .limit2
  | .home   => .home

/-- R266: `enter_fault(c)`: tell the motion collaborator to stop, latch the cause, become Faulted. `drv_en`, `settings`
and the codec are left alone, and nothing is emitted (R267: the call site reports). -/
def State.enterFault (s : State) (c : FaultCause) : State := { s.call .stop with cause := some c, ctrl := .faulted }

/-- R172, R272: what a successful RESET leaves: no cause, and the state the enable line implies (C7). -/
def State.leaveFault (s : State) : State :=
  { s with cause := none, ctrl := if s.drvEn then .idle else .disabled }

/-- R267: enter Faulted and report it at once, as the Service phase does. -/
def State.faultProactively (s : State) (c : FaultCause) : State := (s.enterFault c).emit (.fault c.code)

end Sys2Proof.Machine
end

