-- ==== Sys2Proof/Machine/Flags.lean ====
section
/-! DEFINITION. The two status flags that persist across commands (10_state.md R34), `drv_en` (R25) and the fault latch
(R27), and what reads and writes them. There are no condition codes. -/

namespace Sys2Proof.Machine

/-- R27, R34: the fault latch is set. -/
def State.isFaulted (s : State) : Bool := s.ctrl == .faulted

/-- R155, R156, R172, R176: the core holds a motion intent. -/
def State.inMotion (s : State) : Bool := s.ctrl == .moving || s.ctrl == .homing

/-- R25, R175: ENABLE's write of `drv_en`, with the call it mirrors. -/
def State.driveEnableOn (s : State) : State := { s.call .enable with drvEn := true }

/-- R25, R176: DISABLE's write of `drv_en`, with the call it mirrors. -/
def State.driveEnableOff (s : State) : State := { s.call .disable with drvEn := false }

/-- R27: the FAULT reply that reports the latched cause. With no cause latched there is no rule (R248, log 8). -/
def State.causeReply (s : State) : Except Fault Reply :=
  match s.cause with
  | some c => .ok (.fault c.code)
  | none   => .error .latchWithoutCause

end Sys2Proof.Machine
end

