-- ==== Sys2Proof/Machine/Operands.lean ====
section
/-! DEFINITION. The operand forms beyond plain bytes and integers: the settings image (30_encoding.md R91, R92) with
`validate` (43_commands_control.md R182), `decode_settings` (R178) and `settings_image`. -/

namespace Sys2Proof.Machine

/-- R182: `validate(a)`. It checks the 4-bit fields and the reserved flag bits 7:6, and reads no state. -/
def validate (m : SettingsImage) : Bool :=
  decide (m.runCurrent.toNat ≤ 0x0F) && decide (m.sleepCurrent.toNat ≤ 0x0F) && decide (m.microstep.toNat ≤ 0x0F) &&
    m.flags.extractLsb' 6 2 == 0

/-- R178: `decode_settings(a)`. Taking `[3:0]` loses nothing of an image that `validate` accepts. -/
def decodeSettings (m : SettingsImage) : Settings :=
  { runCurrent := m.runCurrent.extractLsb' 0 4, sleepCurrent := m.sleepCurrent.extractLsb' 0 4,
    microstep := m.microstep.extractLsb' 0 4, sleepTimeout := m.sleepTimeout, topSpeed := m.topSpeed,
    acceleration := m.acceleration,
    lim1En := m.flags.getLsbD 0, lim1Pol := m.flags.getLsbD 1,
    lim2En := m.flags.getLsbD 2, lim2Pol := m.flags.getLsbD 3,
    homeEn := m.flags.getLsbD 4, homePol := m.flags.getLsbD 5 }

/-- R92: `flags_byte(s)`: bits 5:0 are the switch flags, bits 7:6 read as 00. -/
def flagsByte (r : Settings) : Byte :=
  BitVec.ofNat 8 (r.lim1En.toNat + 2 * r.lim1Pol.toNat + 4 * r.lim2En.toNat + 8 * r.lim2Pol.toNat +
    16 * r.homeEn.toNat + 32 * r.homePol.toNat)

/-- R91: the image a record is sent as, its 4-bit fields zero-extended. -/
def imageOf (r : Settings) : SettingsImage :=
  { runCurrent := r.runCurrent.setWidth 8, sleepCurrent := r.sleepCurrent.setWidth 8,
    microstep := r.microstep.setWidth 8, sleepTimeout := r.sleepTimeout, topSpeed := r.topSpeed,
    acceleration := r.acceleration, flags := flagsByte r }

/-- R91: `settings_image(s)`, ten bytes. -/
def settingsImage (r : Settings) : List Byte := encodeImage (imageOf r)

end Sys2Proof.Machine
end

