-- ==== Sys2Proof/Machine/Gate.lean ====
section
/-! DEFINITION. The legality gate (41_dispatcher.md R133 to R141): the checks common to every command, and the reply that
the loop emits (R238). Check 1 and check 4 are the decoder's (`Reject`); checks 2 and 3 are here. -/

namespace Sys2Proof.Machine

/-- R136: `ctrl ∈ Legal(cmd)`. -/
def legalIn : Command → Ctrl → Bool
  | .goto,             c => c == .idle || c == .moving || c == .homing
  | .stop,             _ => true
  | .home,             c => c == .idle || c == .moving || c == .homing
  | .resetPosition,    c => c == .idle || c == .faulted || c == .disabled
  | .reset,            _ => true
  | .enable,           c => c == .idle || c == .moving || c == .homing || c == .disabled
  | .disable,          _ => true
  | .updateParameters, c => c == .idle || c == .faulted || c == .disabled
  | .query,            _ => true
  | .echo,             _ => true

/-- R135: check 2 fails: Faulted, and the command is not on the allow-list. -/
def refusedByAllowList (cmd : Command) (c : Ctrl) : Bool := c == .faulted && !Config.faultAllow.contains cmd

/-- R133, R141: checks 2 and 3 both pass, in that order; a failing one gives NACK either way. -/
def gatePasses (cmd : Command) (c : Ctrl) : Bool := !refusedByAllowList cmd c && legalIn cmd c

/-- What a command's own rule gives: the state after it and its reply (R130). -/
abbrev RuleResult := Except Fault (State × Reply)

/-- R133, R238: the gate, then the command's own rule, then the one reply. A refused command does nothing else (R139). -/
def runCommand (cmd : Command) (rule : State → RuleResult) (s : State) : Host.Outcome State Fault Refusal :=
  if gatePasses cmd s.ctrl then
    match rule s with
    | .ok (s', r) => .next (s'.emit r)
    | .error e    => .fault e
  else .next (s.emit (.fault .nack))

/-- R133 to R137: the reply to a frame the decoder refused, check by check. -/
def rejectReply (s : State) : Reject → Except Fault Reply
  | .emptyBuffer         => .error .pendingFrameEmpty
  | .unknownCommand _    => .ok (.fault .nack)
  | .malformedLength cmd => .ok (.fault (if gatePasses cmd s.ctrl then .invalidParameters else .nack))

end Sys2Proof.Machine
end

