-- ==== Sys2Proof/Machine/Motion.lean ====
section
/-! DEFINITION. The motion commands and the completion rules (42_commands_motion.md). -/

namespace Sys2Proof.Machine

/-- R151: GOTO. -/
def gotoRule (target : I32) (s : State) : RuleResult := .ok ((s.call (.moveTo target)).setCtrl .moving, .ack)

/-- R152: STOP. In Disabled the state stays Disabled (C7). -/
def stopRule (s : State) : RuleResult :=
  .ok ((s.call .stop).setCtrl (if s.ctrl == .idle || s.ctrl == .moving || s.ctrl == .homing then .idle else s.ctrl), .ack)

/-- R153: HOME. -/
def homeRule (s : State) : RuleResult := .ok ((s.call .home).setCtrl .homing, .ack)

/-- R154: RESET_POSITION. -/
def resetPositionRule (s : State) : RuleResult := .ok (s.call .zeroPosition, .ack)

/-- GOTO, gated (R133, R151). -/
def execGoto (target : I32) (s : State) : Host.Outcome State Fault Refusal := runCommand .goto (gotoRule target) s

/-- STOP, gated (R133, R152). -/
def execStop (s : State) : Host.Outcome State Fault Refusal := runCommand .stop stopRule s

/-- HOME, gated (R133, R153). -/
def execHome (s : State) : Host.Outcome State Fault Refusal := runCommand .home homeRule s

/-- RESET_POSITION, gated (R133, R154). -/
def execResetPosition (s : State) : Host.Outcome State Fault Refusal :=
  runCommand .resetPosition resetPositionRule s

/-- R155: motion completion, run in Service while Moving. -/
def motionCompletion (s : State) : State :=
  if s.nextDistanceToGo = 0 then (s.callDistanceToGo.setCtrl .idle).emit .done else s.callDistanceToGo

/-- R156: homing completion, run in Service while Homing. -/
def homingCompletion (s : State) : State :=
  match s.nextHomeStatus with
  | .running => s.callHomeStatus
  | .done    => (s.callHomeStatus.setCtrl .idle).emit .done
  | .failed  => s.callHomeStatus.faultProactively .home

end Sys2Proof.Machine
end

