-- ==== Sys2Proof/Machine/Control.lean ====
section
/-! DEFINITION. RESET, ENABLE, DISABLE and UPDATE_PARAMETERS, with the settings gate's apply and verify steps
(43_commands_control.md). -/

namespace Sys2Proof.Machine

/-- R172: RESET whose `clear_faults()` answered true: stop a motion in progress, then leave the latch. -/
def clearSucceeded (s : State) : State := (if s.inMotion then s.call .stop else s).leaveFault

/-- R172: RESET. A failed clear is reported while Faulted, and enters Faulted with DRIVER elsewhere. -/
def resetRule (s : State) : RuleResult :=
  if s.isFaulted then
    if s.nextClearFaults then .ok (clearSucceeded s.callClearFaults, .ack)
    else s.causeReply.map fun r => (s.callClearFaults, r)
  else
    .ok (if s.nextClearFaults then (clearSucceeded s.callClearFaults, .ack)
      else (s.callClearFaults.enterFault .driver, .fault .driver))

/-- R175: ENABLE. A motion in progress goes on. -/
def enableRule (s : State) : RuleResult :=
  .ok (s.driveEnableOn.setCtrl (if s.ctrl == .idle || s.ctrl == .disabled then .idle else s.ctrl), .ack)

/-- R176: DISABLE. A motion in progress is stopped first. -/
def disableRule (s : State) : RuleResult :=
  .ok ((if s.inMotion then s.call .stop else s).driveEnableOff.setCtrl .disabled, .ack)

/-- R179: `apply_settings(s)`, its three calls in order. -/
def applySettings (r : Settings) (s : State) : State :=
  ((s.call (.setCurrent r.runCurrent)).call (.setMicrostep r.microstep)).call
    (.setSpeedLimits r.topSpeed r.acceleration)

/-- R180: the verify loop with `k` attempts left: whether an attempt succeeded, and the state after the last one. -/
def verifyLoop : Nat → State → Bool × State
  | 0,     s => (false, s)
  | k + 1, s =>
    if s.nextVerify then (true, s.callVerify)
    else if k = 0 then (false, s.callVerify)
    else verifyLoop k (s.callVerify.delay Config.verifyDelay)

/-- R180: `verify_applied()`. -/
def verifyApplied (s : State) : Bool × State := verifyLoop Config.verifyAttempts s

/-- R177: the end of UPDATE_PARAMETERS: ACK, or the latch with DRIVER_SYNC and the new record kept. -/
def finishUpdate (verdict : Bool × State) : State × Reply :=
  if verdict.1 then (verdict.2, .ack) else (verdict.2.enterFault .driverSync, .fault .driverSync)

/-- R177, R181: UPDATE_PARAMETERS: the whole record is written, or nothing. -/
def updateParametersRule (m : SettingsImage) (s : State) : RuleResult :=
  if validate m then
    .ok (finishUpdate (verifyApplied (applySettings (decodeSettings m) (s.setSettings (decodeSettings m)))))
  else .ok (s, .fault .invalidParameters)

/-- RESET, gated (R133, R172). -/
def execReset (s : State) : Host.Outcome State Fault Refusal := runCommand .reset resetRule s

/-- ENABLE, gated (R133, R175). -/
def execEnable (s : State) : Host.Outcome State Fault Refusal := runCommand .enable enableRule s

/-- DISABLE, gated (R133, R176). -/
def execDisable (s : State) : Host.Outcome State Fault Refusal := runCommand .disable disableRule s

/-- UPDATE_PARAMETERS, gated (R133, R177). -/
def execUpdateParameters (m : SettingsImage) (s : State) : Host.Outcome State Fault Refusal :=
  runCommand .updateParameters (updateParametersRule m) s

end Sys2Proof.Machine
end

