-- ==== Sys2Proof/Machine/Query.lean ====
section
/-! DEFINITION. QUERY with its seven sub-forms, and ECHO (44_commands_query_echo.md). No rule here writes `ctrl`, `cause`,
`drv_en` or `settings` (R211). -/

namespace Sys2Proof.Machine

/-- R202: QUERY(MODEL). -/
def modelRule (s : State) : RuleResult := .ok (s, .text .model Config.modelText)

/-- R203: QUERY(SERIAL). -/
def serialRule (s : State) : RuleResult := .ok (s, .text .serial Config.serialText)

/-- R204: QUERY(FIRMWARE). -/
def firmwareRule (s : State) : RuleResult := .ok (s, .text .firmware Config.firmwareText)

/-- R205: the three register reads, in order, and the data reply that carries them raw. -/
def readFaultRegisters (s : State) : State × Reply :=
  (s.callReadFault.callReadDiag1.callReadDiag2,
    .data .faults [s.nextReadFault, s.callReadFault.nextReadDiag1, s.callReadFault.callReadDiag1.nextReadDiag2])

/-- R205: QUERY(FAULTS): the latched cause while Faulted (C10), a fresh read of the registers otherwise. -/
def faultsRule (s : State) : RuleResult :=
  if s.isFaulted then s.causeReply.map fun r => (s, r) else .ok (readFaultRegisters s)

/-- R206: QUERY(PARAMETERS). -/
def parametersRule (s : State) : RuleResult := .ok (s, .data .parameters (settingsImage s.settings))

/-- R207: QUERY(POSITION). -/
def positionRule (s : State) : RuleResult :=
  .ok (s.callCurrentPosition, .data .position (be32Bytes s.nextCurrentPosition))

/-- R208: QUERY(MODE). -/
def modeRule (s : State) : RuleResult := .ok (s, .data .mode [s.ctrl.stateCode])

/-- R201: QUERY with an unrecognized sub-code. -/
def unknownSubRule (s : State) : RuleResult := .ok (s, .fault .invalidParameters)

/-- R200: QUERY's dispatch on its sub-code. -/
def queryRule (sub : Byte) : State → RuleResult :=
  match QuerySub.ofCode? sub with
  | some .model      => modelRule
  | some .serial     => serialRule
  | some .firmware   => firmwareRule
  | some .faults     => faultsRule
  | some .parameters => parametersRule
  | some .position   => positionRule
  | some .mode       => modeRule
  | none             => unknownSubRule

/-- R210: ECHO. -/
def echoRule (data : List Byte) (s : State) : RuleResult := .ok (s, .echo data)

/-- QUERY with a sub-code byte, gated (R133, R200). -/
def execQuery (sub : Byte) (s : State) : Host.Outcome State Fault Refusal := runCommand .query (queryRule sub) s

/-- ECHO, gated (R133, R210). -/
def execEcho (data : List Byte) (s : State) : Host.Outcome State Fault Refusal := runCommand .echo (echoRule data) s

/-- QUERY(MODEL), gated (R133, R202). -/
def execQueryModel (s : State) : Host.Outcome State Fault Refusal := runCommand .query modelRule s

/-- QUERY(SERIAL), gated (R133, R203). -/
def execQuerySerial (s : State) : Host.Outcome State Fault Refusal := runCommand .query serialRule s

/-- QUERY(FIRMWARE), gated (R133, R204). -/
def execQueryFirmware (s : State) : Host.Outcome State Fault Refusal := runCommand .query firmwareRule s

/-- QUERY(FAULTS), gated (R133, R205). -/
def execQueryFaults (s : State) : Host.Outcome State Fault Refusal := runCommand .query faultsRule s

/-- QUERY(PARAMETERS), gated (R133, R206). -/
def execQueryParameters (s : State) : Host.Outcome State Fault Refusal := runCommand .query parametersRule s

/-- QUERY(POSITION), gated (R133, R207). -/
def execQueryPosition (s : State) : Host.Outcome State Fault Refusal := runCommand .query positionRule s

/-- QUERY(MODE), gated (R133, R208). -/
def execQueryMode (s : State) : Host.Outcome State Fault Refusal := runCommand .query modeRule s

end Sys2Proof.Machine
end

