-- ==== Sys2Proof/Machine/Dispatch.lean ====
section
/-! DEFINITION. The meaning of each instruction: what the Dispatch phase does with a frame that decodes to it, from the
gate to the emitted reply (R133, R238). -/

namespace Sys2Proof.Machine

def exec (i : Instr) (s : State) : Host.Outcome State Fault Refusal :=
  match i with
  | .goto target => Sys2Proof.Machine.execGoto target s
  | .stop => Sys2Proof.Machine.execStop s
  | .home => Sys2Proof.Machine.execHome s
  | .resetPosition => Sys2Proof.Machine.execResetPosition s
  | .reset => Sys2Proof.Machine.execReset s
  | .enable => Sys2Proof.Machine.execEnable s
  | .disable => Sys2Proof.Machine.execDisable s
  | .updateParameters image => Sys2Proof.Machine.execUpdateParameters image s
  | .query sub => Sys2Proof.Machine.execQuery sub s
  | .echo data => Sys2Proof.Machine.execEcho data s
  | .queryModel => Sys2Proof.Machine.execQueryModel s
  | .querySerial => Sys2Proof.Machine.execQuerySerial s
  | .queryFirmware => Sys2Proof.Machine.execQueryFirmware s
  | .queryFaults => Sys2Proof.Machine.execQueryFaults s
  | .queryParameters => Sys2Proof.Machine.execQueryParameters s
  | .queryPosition => Sys2Proof.Machine.execQueryPosition s
  | .queryMode => Sys2Proof.Machine.execQueryMode s

end Sys2Proof.Machine
end

