-- ==== Sys2Proof/Machine/Loop.lean ====
section
/-! DEFINITION. The three phases of the control loop (46_control_loop.md R235 to R238). -/

namespace Sys2Proof.Machine

/-- R236: the fault poll, made in every state but Faulted. -/
def faultPoll (s : State) : State :=
  if s.isFaulted then s
  else
    match s.nextPollFault with
    | none   => s.callPollFault
    | some k => s.callPollFault.faultProactively (causeOf k)

/-- R236: the completion checks, each on the state as the rules before it left it. -/
def completionChecks (s : State) : State :=
  let s1 := if s.ctrl == .moving then motionCompletion s else s
  if s1.ctrl == .homing then homingCompletion s1 else s1

/-- R236: the Service phase, one atomic step. -/
def servicePhase (s : State) : State := (completionChecks (faultPoll s)).setPhase .ingest

/-- R237: one Ingest step: a byte, if there is one, else the end of the phase. -/
def ingestStep (s : State) : Host.Outcome State Fault Refusal :=
  match s.rxQ with
  | []     => .next (s.setPhase .dispatch)
  | b :: _ =>
    match feed b s.dropRead with
    | .ok s'   => .next s'
    | .error e => .fault e

/-- R130, R133, R238: `handle(f)` and the emission of its reply. -/
def handleFrame (f : Frame) (s : State) : Host.Outcome State Fault Refusal :=
  match decode f with
  | .ok i    => exec i s
  | .error e =>
    match rejectReply s e with
    | .ok r    => .next (s.emit r)
    | .error e => .fault e

/-- The end of the Dispatch phase: the next iteration starts with Service (R235, R238). -/
def toService : Host.Outcome State Fault Refusal → Host.Outcome State Fault Refusal
  | .next s    => .next (s.setPhase .service)
  | .fault e   => .fault e
  | .refused r => .refused r

/-- R238: the Dispatch phase, one atomic step, at most one frame. -/
def dispatchPhase (s : State) : Host.Outcome State Fault Refusal :=
  match takeFrame s with
  | .error e         => .fault e
  | .ok (none, s')   => toService (.next s')
  | .ok (some f, s') => toService (handleFrame f s')

end Sys2Proof.Machine
end

