-- ==== Sys2Proof/Machine/Step.lean ====
section
/-! DEFINITION. One step of the core loop (46_control_loop.md R235 to R239), and the placing of one instruction where the
next step takes it from. -/

namespace Sys2Proof.Machine

/-- R235: the phase register names the phase that runs next. -/
def step (s : State) : Host.Outcome State Fault Refusal :=
  match s.phase with
  | .service  => .next (servicePhase s)
  | .ingest   => ingestStep s
  | .dispatch => dispatchPhase s

/-- The frame of a table word, Pending in the codec, with the Dispatch phase next (log 12). -/
def State.withFetchWord (s : State) (nbits w : Nat) : State :=
  (s.holdFrame (tableBytes nbits w)).setPhase .dispatch

end Sys2Proof.Machine
end

