-- ==== Sys2Proof/Machine/Agents.lean ====
section
/-! DEFINITION. The host (46_control_loop.md R245) and the interleaving of host steps with core steps (R240). -/

namespace Sys2Proof.Machine

/-- R245: the host appends one byte, of any value, to `rx_q`. -/
def State.hostAppend (s : State) (b : Byte) : State := { s with rxQ := s.rxQ ++ [b] }

/-- R245: the host reads the first `n` bytes of `tx`. -/
def State.hostRead (s : State) (n : Nat) : List Byte := s.tx.take n

/-- R240: who takes the next step. A collaborator takes none: its answers are part of the core's steps. -/
inductive Turn
  /-- One step of the core loop. -/
  | core
  /-- The host appends this byte. -/
  | host (b : Byte)
  deriving DecidableEq, Repr

/-- One turn of an agent. -/
def State.turn (s : State) : Turn → Host.Outcome State Fault Refusal
  | .core   => step s
  | .host b => .next (s.hostAppend b)

/-- R240: a run under a schedule; schedules range over every interleaving of the host and the core. -/
def runSchedule : List Turn → State → Host.Outcome State Fault Refusal
  | [],      s => .next s
  | t :: ts, s =>
    match s.turn t with
    | .next s'   => runSchedule ts s'
    | .fault e   => .fault e
    | .refused r => .refused r

end Sys2Proof.Machine
end

