-- ==== Sys2Proof/Safety.lean ====
section
/-! DEFINITION. What a good state is: the invariants the spec gives (R22, R26, R27), and the quiescent point at which a
claim observes the core (R247). R29 holds by the type of `settings`. -/

namespace Sys2Proof.Machine

/-- R22: the buffer against the receiver state, the capacity, and no marker in the buffer. -/
abbrev State.CodecInv (s : State) : Prop :=
  (s.rxState = .waiting → s.buf = []) ∧ (s.rxState = .pending → 1 ≤ s.buf.length) ∧
    s.buf.length ≤ Config.pCap ∧ ∀ b ∈ s.buf, isMarker b = false

/-- R26: `drv_en` against `ctrl`. -/
abbrev State.EnableInv (s : State) : Prop :=
  ((s.ctrl = .idle ∨ s.ctrl = .moving ∨ s.ctrl = .homing) → s.drvEn = true) ∧ (s.ctrl = .disabled → s.drvEn = false)

/-- R27: `cause ≠ None` exactly when `ctrl = Faulted`. -/
abbrev State.LatchInv (s : State) : Prop := s.cause ≠ none ↔ s.ctrl = .faulted

/-- R22, R26, R27 together. -/
abbrev State.Inv (s : State) : Prop := s.CodecInv ∧ s.EnableInv ∧ s.LatchInv

/-- R247: a quiescent point. -/
abbrev State.Quiescent (s : State) : Prop := s.phase = .service ∧ s.rxQ = [] ∧ s.rxState ≠ .pending

/-- The state that differs from `s` in one more frame sent and in nothing else: what a command with no effect of its own
leaves (R139, R211). -/
abbrev State.replied (s : State) (frame : List Byte) : State := { s with history := s.history ++ [.sent frame] }

/-- R85: the frame of ACK without data. -/
abbrev ackFrame : List Byte := [0x3C, 0x41, 0x3E]

/-- R85: the frame of DONE. -/
abbrev doneFrame : List Byte := [0x3C, 0x44, 0x3E]

/-- R85, R86: the frame of FAULT(NACK). -/
abbrev nackFrame : List Byte := [0x3C, 0x46, 0x01, 0x3E]

/-- R85, R86: the frame of FAULT(INVALID_PARAMETERS). -/
abbrev invalidFrame : List Byte := [0x3C, 0x46, 0x04, 0x3E]

/-- R85, R86: the frame of FAULT(c) for a latched cause. -/
abbrev causeFrame : FaultCause → List Byte
  | .driver     => [0x3C, 0x46, 0x02, 0x3E]
  | .driverSync => [0x3C, 0x46, 0x03, 0x3E]
  | .limit1     => [0x3C, 0x46, 0x05, 0x3E]
  | .limit2     => [0x3C, 0x46, 0x06, 0x3E]
  | .home       => [0x3C, 0x46, 0x07, 0x3E]

/-- R76: the ten command codes, as bytes. -/
abbrev commandCodes : List Byte := [0x47, 0x53, 0x48, 0x5A, 0x52, 0x4E, 0x44, 0x50, 0x51, 0x45]

/-- R141: the legality matrix, column by column: whether a frame with this (recognized) code runs. -/
abbrev matrixRuns (code : Byte) : Ctrl → Bool
  | .idle     => true
  | .moving   => !([0x50, 0x5A] : List Byte).contains code
  | .homing   => !([0x50, 0x5A] : List Byte).contains code
  | .faulted  => ([0x52, 0x51, 0x45] : List Byte).contains code
  | .disabled => !([0x47, 0x48] : List Byte).contains code

/-- R137: the argument count is wrong for the (recognized) code. -/
abbrev wrongLength (f : Frame) : Prop :=
  (f.code = 0x47 ∧ f.args.length ≠ 4) ∨ (f.code ∈ ([0x53, 0x48, 0x5A, 0x52, 0x4E, 0x44] : List Byte) ∧ f.args ≠ []) ∨
    (f.code = 0x50 ∧ f.args.length ≠ 10) ∨ (f.code = 0x51 ∧ f.args.length ≠ 1) ∨ (f.code = 0x45 ∧ 31 < f.args.length)

/-- The Dispatch phase is about to take the frame `f` and the decoder reads `i` from it (R109, R238). -/
abbrev State.Dispatches (s : State) (i : Instr) : Prop :=
  s.phase = .dispatch ∧ s.rxState = .pending ∧ ∃ f : Frame, s.buf = f.bytes ∧ decode f = .ok i

end Sys2Proof.Machine
end

