-- ==== Sys2Proof/Certificates/Slice0/Obligations.lean ====
section
/-! DEFINITION. The statements for the provers. Bytes are written out as the spec's tables give them, not by the model's
encoder. "The answer" of a collaborator is the queued one, or the free value when the queue is empty: every statement holds
for every value of it. -/

open Sys2Proof Sys2Proof.Machine

/-! ## Reset and the invariants -/

/-- R290: what reset leaves in every element. `Config.settingsReset` is the OPEN parameter `P_SETTINGS_RESET`. -/
def Obligations.ResetHoldsTheStatedValues : Prop :=
  State.reset.rxState = .waiting ∧ State.reset.buf = [] ∧ State.reset.ctrl = .disabled ∧ State.reset.phase = .service ∧
    State.reset.drvEn = false ∧ State.reset.cause = none ∧ State.reset.settings = Config.settingsReset ∧
    State.reset.tx = [] ∧ State.reset.calls = [] ∧ State.reset.diag = [] ∧ State.reset.rxQ = []

/-- R22, R26, R27 hold at reset. -/
def Obligations.InvariantsHoldAtReset : Prop := State.reset.Inv

/-- R22, R26, R27: every core step keeps the invariants, from every state that has them. -/
def Obligations.EveryStepKeepsTheInvariants : Prop :=
  ∀ s t : State, s.Inv → step s = .next t → t.Inv

/-- R248: from a state with the invariants, a step always has a next state. -/
def Obligations.EveryStepHasASuccessor : Prop := ∀ s : State, s.Inv → ∃ t, step s = .next t

/-- R248: each combination that no rule covers stops with a fault that names it; the invariants rule all of them out.
Which combinations these are is the model's choice (logs 6, 7, 8). -/
def Obligations.UncoveredCombinationsFaultByName : Prop :=
  ∀ s : State,
    (s.ctrl = .faulted → s.cause = none → exec .queryFaults s = .fault .latchWithoutCause) ∧
    (s.ctrl = .faulted → s.cause = none → s.nextClearFaults = false → exec .reset s = .fault .latchWithoutCause) ∧
    (s.phase = .dispatch → s.rxState = .pending → s.buf = [] → step s = .fault .pendingFrameEmpty) ∧
    (∀ b q, s.phase = .ingest → s.rxState = .reading → s.rxQ = b :: q → b ≠ 0x3C → b ≠ 0x3E → 32 < s.buf.length →
      step s = .fault .bufferOverCapacity)

/-- R240, R245, R248: however the host and the core interleave, whatever the host sends and whatever the collaborators
answer, the run never stops and never leaves the invariants. The host as turns between core steps is the model's form of
R240 (log 13). -/
def Obligations.EveryScheduleKeepsTheInvariants : Prop :=
  ∀ (turns : List Turn) (s : State), s.Inv → ∃ t, runSchedule turns s = .next t ∧ t.Inv

/-- R31: the logs only grow, whoever takes the turn. That the logs are one history is the model's choice (log 5). -/
def Obligations.HistoryIsAppendOnly : Prop :=
  ∀ (s t : State) (turn : Turn), s.turn turn = .next t → s.history <+: t.history

/-! ## The Frame Codec -/

/-- R116: the transition table of `feed`, row by row, with the event each row logs (R110). -/
def Obligations.FeedFollowsTheTransitionTable : Prop :=
  ∀ (b : Byte) (s : State),
    (s.rxState = .waiting → b = 0x3C → feed b s = .ok { s with rxState := .reading, buf := [] }) ∧
    (s.rxState = .waiting → b ≠ 0x3C → feed b s = .ok s) ∧
    (s.rxState = .reading → b = 0x3C →
      feed b s = .ok { s with rxState := .waiting, buf := [], history := s.history ++ [.codec (.error .doubleStart)] }) ∧
    (s.rxState = .reading → b = 0x3E → s.buf.length = 0 →
      feed b s = .ok { s with rxState := .waiting, buf := [], history := s.history ++ [.codec (.error .emptyPayload)] }) ∧
    (s.rxState = .reading → b = 0x3E → 1 ≤ s.buf.length →
      feed b s = .ok { s with rxState := .pending, history := s.history ++ [.codec .frameReady] }) ∧
    (s.rxState = .reading → b ≠ 0x3C → b ≠ 0x3E → s.buf.length < 32 → feed b s = .ok { s with buf := s.buf ++ [b] }) ∧
    (s.rxState = .reading → b ≠ 0x3C → b ≠ 0x3E → s.buf.length = 32 →
      feed b s = .ok { s with rxState := .waiting, buf := [], history := s.history ++ [.codec (.error .overflow)] }) ∧
    (s.rxState = .pending → feed b s = .ok s)

/-- R109, R112: `take_frame` hands over the buffered frame, code byte first, and returns to Waiting; in the other states it
does nothing. From a state with the invariants the frame has at most 31 arguments and no byte of it is a marker. -/
def Obligations.TakeFrameHandsOverThePendingFrame : Prop :=
  ∀ s : State,
    (∀ c args, s.rxState = .pending → s.buf = c :: args →
      takeFrame s = .ok (some ⟨c, args⟩, { s with rxState := .waiting, buf := [] })) ∧
    (s.rxState ≠ .pending → takeFrame s = .ok (none, s)) ∧
    (∀ f t, s.Inv → takeFrame s = .ok (some f, t) →
      s.buf = f.code :: f.args ∧ f.args.length ≤ 31 ∧ ∀ b ∈ f.code :: f.args, b ≠ 0x3C ∧ b ≠ 0x3E)

/-- R117: feeding an encoded frame from Waiting and taking it gives the code and the arguments back. -/
def Obligations.EncodedFrameRoundTripsThroughTheCodec : Prop :=
  ∀ (c : Byte) (a : List Byte) (s : State), s.rxState = .waiting → isMarker c = false → a.length ≤ 31 →
    (∀ b ∈ a, isMarker b = false) →
    ∃ t, feedAll (encodeReply c a) s = .ok t ∧
      takeFrame t = .ok (some ⟨c, a⟩, { s with buf := [], history := s.history ++ [.codec .frameReady] })

/-- R113, R301: a frame resynchronises the codec from Waiting; from Reading the first start marker is lost to
DoubleStart and the frame with it, and a second start marker is needed. The reading of R113 is the model's (log 17). -/
def Obligations.ResynchronisationNeedsAFreshStart : Prop :=
  ∀ (d : List Byte) (s : State), (∀ b ∈ d, isMarker b = false) → 1 ≤ d.length → d.length ≤ 32 →
    (s.rxState = .waiting → feedAll (0x3C :: d ++ [0x3E]) s =
      .ok { s with rxState := .pending, buf := d, history := s.history ++ [.codec .frameReady] }) ∧
    (s.rxState = .reading → feedAll (0x3C :: d ++ [0x3E]) s =
      .ok { s with rxState := .waiting, buf := [], history := s.history ++ [.codec (.error .doubleStart)] }) ∧
    (s.rxState = .reading → feedAll (0x3C :: 0x3C :: d ++ [0x3E]) s =
      .ok { s with rxState := .pending, buf := d,
                   history := s.history ++ [.codec (.error .doubleStart), .codec .frameReady] })

/-- R295: a marker value among the arguments. An end marker ends the frame early and the rest is lost; a start marker loses
the frame, up to and including the end marker the host meant. -/
def Obligations.MarkerInArgumentsBreaksTheFrame : Prop :=
  ∀ (c : Byte) (front : List Byte) (s : State), s.rxState = .waiting → isMarker c = false →
    (∀ b ∈ front, isMarker b = false) → front.length ≤ 31 →
    (∀ rest, feedAll ([0x3C, c] ++ front ++ [0x3E] ++ rest) s =
      .ok { s with rxState := .pending, buf := c :: front, history := s.history ++ [.codec .frameReady] }) ∧
    (∀ rest, (∀ b ∈ rest, isMarker b = false) → feedAll ([0x3C, c] ++ front ++ [0x3C] ++ rest ++ [0x3E]) s =
      .ok { s with buf := [], history := s.history ++ [.codec (.error .doubleStart)] })

/-! ## Encoding -/

/-- R76, R87, R91, R95: the decoder reads back every well-formed instruction from its frame, at every operand. Which
QUERY terms are well formed is the model's choice (log 10). -/
def Obligations.DecodeOfEncodeIsTheInstruction : Prop :=
  ∀ i : Instr, WellFormed i = true → decode (encode i) = .ok i

/-- R76, R78, R87: a frame that decodes is the encoding of what it decodes to: no bit of it is ignored. -/
def Obligations.EncodeOfDecodeIsTheFrame : Prop :=
  ∀ (f : Frame) (i : Instr), decode f = .ok i → encode i = f

/-- R76, R79, R87: frames of the spec's own examples decode to the commands the spec says (a sanity statement). -/
def Obligations.SpecFramesDecode : Prop :=
  decode ⟨0x47, [0x00, 0x00, 0x00, 0x64]⟩ = .ok (.goto 100) ∧
    decode ⟨0x47, [0xFF, 0xFF, 0xFF, 0xFF]⟩ = .ok (.goto (-1)) ∧
    decode ⟨0x53, []⟩ = .ok .stop ∧ decode ⟨0x52, []⟩ = .ok .reset ∧
    decode ⟨0x50, [0x08, 0x02, 0x04, 0x00, 0x0A, 0x01, 0xF4, 0x00, 0x64, 0x15]⟩ =
      .ok (.updateParameters ⟨8, 2, 4, 10, 500, 100, 0x15⟩) ∧
    decode ⟨0x51, [0x46]⟩ = .ok .queryFaults ∧ decode ⟨0x51, [0x5A]⟩ = .ok (.query 0x5A) ∧
    decode ⟨0x45, [0x68, 0x69]⟩ = .ok (.echo [0x68, 0x69]) ∧ decode ⟨0x57, []⟩ = .error (.unknownCommand 0x57)

/-- R182: `validate` accepts exactly the images whose 4-bit fields are at most 15 and whose flag bits 7:6 are 0. -/
def Obligations.ValidateAcceptsExactlyTheLegalImages : Prop :=
  ∀ m : SettingsImage, validate m = true ↔
    m.runCurrent ≤ 0x0F ∧ m.sleepCurrent ≤ 0x0F ∧ m.microstep ≤ 0x0F ∧
      m.flags.getLsbD 6 = false ∧ m.flags.getLsbD 7 = false

/-- R91, R92, R178: nothing is masked away: an accepted image comes back from the record it decodes to, and every record's
image is accepted and decodes to the record. -/
def Obligations.SettingsImageRoundTrips : Prop :=
  (∀ m : SettingsImage, validate m = true → imageOf (decodeSettings m) = m) ∧
    ∀ r : Settings, validate (imageOf r) = true ∧ decodeSettings (imageOf r) = r

/-! ## The gate and the replies -/

/-- R134: a code outside the table is answered FAULT(NACK) in every state, with no side effect. -/
def Obligations.UnknownCommandIsNacked : Prop :=
  ∀ (f : Frame) (s : State), f.code ∉ commandCodes → handleFrame f s = .next (s.replied nackFrame)

/-- R133, R135, R136, R141: a recognized command that the matrix refuses is answered FAULT(NACK), whatever its arguments, with
no side effect. -/
def Obligations.MatrixRefusalIsNacked : Prop :=
  ∀ (f : Frame) (s : State), f.code ∈ commandCodes → matrixRuns f.code s.ctrl = false →
    handleFrame f s = .next (s.replied nackFrame)

/-- R133, R137: a recognized command that the matrix lets run and whose argument count is wrong is answered
FAULT(INVALID_PARAMETERS), with no side effect. -/
def Obligations.WrongLengthIsInvalidParameters : Prop :=
  ∀ (f : Frame) (s : State), wrongLength f → matrixRuns f.code s.ctrl = true →
    handleFrame f s = .next (s.replied invalidFrame)

/-- R135, R136, R141: the refused cells of the matrix, instruction by instruction: where each form is turned away. -/
def Obligations.RefusedInstructionsReplyNackOnly : Prop :=
  ∀ s : State,
    (s.ctrl = .faulted ∨ s.ctrl = .disabled →
      (∀ target, exec (.goto target) s = .next (s.replied nackFrame)) ∧ exec .home s = .next (s.replied nackFrame)) ∧
    (s.ctrl = .faulted → exec .stop s = .next (s.replied nackFrame) ∧ exec .enable s = .next (s.replied nackFrame) ∧
      exec .disable s = .next (s.replied nackFrame)) ∧
    (s.ctrl = .moving ∨ s.ctrl = .homing ∨ s.ctrl = .faulted →
      exec .resetPosition s = .next (s.replied nackFrame) ∧
      ∀ m, exec (.updateParameters m) s = .next (s.replied nackFrame))

/-- R139: whenever the reply is FAULT(NACK) or FAULT(INVALID_PARAMETERS), that reply is all that happened. -/
def Obligations.RejectedFrameHasNoSideEffect : Prop :=
  ∀ (f : Frame) (s t : State) (reply : List Byte), reply = nackFrame ∨ reply = invalidFrame →
    handleFrame f s = .next t → t.history.getLast? = some (.sent reply) → t = s.replied reply

/-- R140: every frame handled gets exactly one reply, an ACK, a FAULT or an ECHO; DONE is never one. -/
def Obligations.EveryHandledFrameGetsOneReply : Prop :=
  ∀ (f : Frame) (s t : State), handleFrame f s = .next t →
    ∃ c payload, t.frames = s.frames ++ [[0x3C, c] ++ payload ++ [0x3E]] ∧ c ∈ ([0x41, 0x46, 0x45] : List Byte)

/-- R226: every frame the core emits has a payload of at most 31 bytes. -/
def Obligations.EmittedPayloadsFit : Prop :=
  ∀ (s t : State) (new : List (List Byte)), step s = .next t → t.frames = s.frames ++ new → ∀ fr ∈ new,
    ∃ c payload, fr = [0x3C, c] ++ payload ++ [0x3E] ∧ payload.length ≤ 31 ∧
      c ∈ ([0x41, 0x44, 0x46, 0x45] : List Byte)

/-- R296: only QUERY(POSITION), QUERY(PARAMETERS) and QUERY(FAULTS) can be answered with a marker value in the payload. -/
def Obligations.OnlyThreeQueriesCanReplyAMarker : Prop :=
  ∀ (f : Frame) (s t : State) (reply : List Byte), (∀ b ∈ f.args, isMarker b = false) → handleFrame f s = .next t →
    decode f ≠ .ok .queryPosition → decode f ≠ .ok .queryParameters → decode f ≠ .ok .queryFaults →
    t.frames = s.frames ++ [reply] →
    ∃ c payload, reply = [0x3C, c] ++ payload ++ [0x3E] ∧ ∀ b ∈ c :: payload, isMarker b = false

/-! ## The motion commands -/

/-- R151: GOTO forwards the target, becomes Moving and replies ACK; everything else is unchanged. -/
def Obligations.GotoForwardsTheTarget : Prop :=
  ∀ (s : State) (target : I32), s.ctrl = .idle ∨ s.ctrl = .moving ∨ s.ctrl = .homing →
    exec (.goto target) s =
      .next { s with ctrl := .moving, history := s.history ++ [.call (.moveTo target), .sent ackFrame] }

/-- R152: STOP calls stop and replies ACK; the state becomes Idle, and stays Disabled in Disabled. -/
def Obligations.StopEndsTheMotionIntent : Prop :=
  ∀ s : State,
    (s.ctrl = .idle ∨ s.ctrl = .moving ∨ s.ctrl = .homing →
      exec .stop s = .next { s with ctrl := .idle, history := s.history ++ [.call .stop, .sent ackFrame] }) ∧
    (s.ctrl = .disabled →
      exec .stop s = .next { s with history := s.history ++ [.call .stop, .sent ackFrame] })

/-- R153: HOME starts the homing sequence, becomes Homing and replies ACK. -/
def Obligations.HomeStartsHoming : Prop :=
  ∀ s : State, s.ctrl = .idle ∨ s.ctrl = .moving ∨ s.ctrl = .homing →
    exec .home s = .next { s with ctrl := .homing, history := s.history ++ [.call .home, .sent ackFrame] }

/-- R154: RESET_POSITION zeroes the collaborator's reference and replies ACK; nothing in the core changes. -/
def Obligations.ResetPositionOnlyZeroesTheReference : Prop :=
  ∀ s : State, s.ctrl = .idle ∨ s.ctrl = .disabled →
    exec .resetPosition s = .next { s with history := s.history ++ [.call .zeroPosition, .sent ackFrame] }

/-! ## The control commands -/

/-- R172, R272: a RESET whose clear succeeds leaves the latch: ACK, no cause, the state the enable line implies; a
motion in progress is stopped. The `oracle` clause is the model's own (log 3). -/
def Obligations.SuccessfulResetClearsTheLatch : Prop :=
  ∀ s : State, s.nextClearFaults = true →
    exec .reset s =
      .next { s with
        cause := none
        ctrl := if s.drvEn then .idle else .disabled
        oracle := { s.oracle with clearFaults := s.oracle.clearFaults.tail, draws := s.oracle.draws + 1 }
        history := s.history ++ [.call (.clearFaults true)] ++
          (if s.ctrl = .moving ∨ s.ctrl = .homing then [.call .stop] else []) ++ [.sent ackFrame] }

/-- R172: a RESET whose clear fails: while Faulted the latched cause is reported and kept; elsewhere the controller
enters Faulted with DRIVER. The `oracle` clause is the model's own (log 3). -/
def Obligations.FailedResetReportsOrLatches : Prop :=
  ∀ s : State, s.nextClearFaults = false →
    (∀ c, s.ctrl = .faulted → s.cause = some c →
      exec .reset s =
        .next { s with
          oracle := { s.oracle with clearFaults := s.oracle.clearFaults.tail, draws := s.oracle.draws + 1 }
          history := s.history ++ [.call (.clearFaults false), .sent (causeFrame c)] }) ∧
    (s.ctrl ≠ .faulted →
      exec .reset s =
        .next { s with
          ctrl := .faulted
          cause := some .driver
          oracle := { s.oracle with clearFaults := s.oracle.clearFaults.tail, draws := s.oracle.draws + 1 }
          history := s.history ++ [.call (.clearFaults false), .call .stop, .sent (causeFrame .driver)] })

/-- R175: ENABLE drives the line on and replies ACK; Disabled becomes Idle, and a motion in progress goes on. -/
def Obligations.EnableDrivesTheLineOn : Prop :=
  ∀ s : State,
    (s.ctrl = .idle ∨ s.ctrl = .disabled →
      exec .enable s =
        .next { s with ctrl := .idle, drvEn := true, history := s.history ++ [.call .enable, .sent ackFrame] }) ∧
    (s.ctrl = .moving ∨ s.ctrl = .homing →
      exec .enable s = .next { s with drvEn := true, history := s.history ++ [.call .enable, .sent ackFrame] })

/-- R176: DISABLE drives the line off, becomes Disabled and replies ACK; a motion in progress is stopped first. -/
def Obligations.DisableDrivesTheLineOff : Prop :=
  ∀ s : State,
    (s.ctrl = .idle ∨ s.ctrl = .disabled →
      exec .disable s =
        .next { s with ctrl := .disabled, drvEn := false,
                       history := s.history ++ [.call .disable, .sent ackFrame] }) ∧
    (s.ctrl = .moving ∨ s.ctrl = .homing →
      exec .disable s =
        .next { s with ctrl := .disabled, drvEn := false,
                       history := s.history ++ [.call .stop, .call .disable, .sent ackFrame] })

/-- R177, R179, R180: UPDATE_PARAMETERS with a legal image, whose verify poll first succeeds on attempt `n + 1`: the
whole record is written, the three setters are called in order, `n + 1` polls are made, and the reply is ACK. The
`oracle` clause is the model's own (log 3). -/
def Obligations.UpdateWritesAppliesAndVerifies : Prop :=
  ∀ (s : State) (m : SettingsImage) (n : Nat), s.ctrl = .idle ∨ s.ctrl = .disabled → validate m = true → n < 10 →
    (∀ k < n, s.verifyAnswer k = false) → s.verifyAnswer n = true →
    exec (.updateParameters m) s =
      .next { s with
        settings := decodeSettings m
        oracle := { s.oracle with verify := s.oracle.verify.drop (n + 1), draws := s.oracle.draws + (n + 1) }
        history := s.history ++
          ([.call (.setCurrent (decodeSettings m).runCurrent), .call (.setMicrostep (decodeSettings m).microstep),
            .call (.setSpeedLimits m.topSpeed m.acceleration)] ++
            List.replicate n (.call (.verifySettingsCommitted false)) ++
            [.call (.verifySettingsCommitted true), .sent ackFrame]) }

/-- R177, R180, R266: UPDATE_PARAMETERS with a legal image and ten failed polls: the record keeps its new values, and
the controller enters Faulted with DRIVER_SYNC, reported as the reply. The `oracle` clause is the model's own (log 3). -/
def Obligations.UpdateVerifyTimeoutLatchesDriverSync : Prop :=
  ∀ (s : State) (m : SettingsImage), s.ctrl = .idle ∨ s.ctrl = .disabled → validate m = true →
    (∀ k < 10, s.verifyAnswer k = false) →
    exec (.updateParameters m) s =
      .next { s with
        settings := decodeSettings m
        ctrl := .faulted
        cause := some .driverSync
        oracle := { s.oracle with verify := s.oracle.verify.drop 10, draws := s.oracle.draws + 10 }
        history := s.history ++
          ([.call (.setCurrent (decodeSettings m).runCurrent), .call (.setMicrostep (decodeSettings m).microstep),
            .call (.setSpeedLimits m.topSpeed m.acceleration)] ++
            List.replicate 10 (.call (.verifySettingsCommitted false)) ++ [.call .stop, .sent (causeFrame .driverSync)]) }

/-- R177, R181, R182, R183: an image that `validate` refuses changes nothing and is answered FAULT(INVALID_PARAMETERS). -/
def Obligations.IllegalImageIsRefusedWhole : Prop :=
  ∀ (s : State) (m : SettingsImage), s.ctrl = .idle ∨ s.ctrl = .disabled →
    (0x0F < m.runCurrent ∨ 0x0F < m.sleepCurrent ∨ 0x0F < m.microstep ∨
      m.flags.getLsbD 6 = true ∨ m.flags.getLsbD 7 = true) →
    exec (.updateParameters m) s = .next (s.replied invalidFrame)

/-! ## QUERY and ECHO -/

/-- R202, R203, R204, R223: the text queries reply the OPEN texts, one byte a character, after the sub-code. -/
def Obligations.TextQueriesReplyTheTexts : Prop :=
  ∀ s : State,
    exec .queryModel s = .next (s.replied ([0x3C, 0x41, 0x4D] ++ asciiBytes Config.modelText ++ [0x3E])) ∧
    exec .querySerial s = .next (s.replied ([0x3C, 0x41, 0x53] ++ asciiBytes Config.serialText ++ [0x3E])) ∧
    exec .queryFirmware s = .next (s.replied ([0x3C, 0x41, 0x56] ++ asciiBytes Config.firmwareText ++ [0x3E]))

/-- R205: QUERY(FAULTS) replies the latched cause while Faulted, with no register read, and a fresh read of the three
registers, in order, otherwise. The `oracle` clause is the model's own (log 3). -/
def Obligations.FaultsQueryRepliesCauseOrRegisters : Prop :=
  ∀ s : State,
    (∀ c, s.ctrl = .faulted → s.cause = some c → exec .queryFaults s = .next (s.replied (causeFrame c))) ∧
    (s.ctrl ≠ .faulted → ∀ f d1 d2, f = s.nextReadFault → d1 = s.callReadFault.nextReadDiag1 →
      d2 = s.callReadFault.callReadDiag1.nextReadDiag2 →
      exec .queryFaults s =
        .next { s with
          oracle := { s.oracle with
            readFault := s.oracle.readFault.tail, readDiag1 := s.oracle.readDiag1.tail,
            readDiag2 := s.oracle.readDiag2.tail, draws := s.oracle.draws + 3 }
          history := s.history ++ [.call (.readFault f), .call (.readDiag1 d1), .call (.readDiag2 d2),
            .sent [0x3C, 0x41, 0x46, f, d1, d2, 0x3E]] })

/-- R206: QUERY(PARAMETERS) replies the settings image and changes nothing. -/
def Obligations.ParametersQueryRepliesTheImage : Prop :=
  ∀ s : State, exec .queryParameters s =
    .next (s.replied ([0x3C, 0x41, 0x50, s.settings.runCurrent.setWidth 8, s.settings.sleepCurrent.setWidth 8,
      s.settings.microstep.setWidth 8] ++ be16Bytes s.settings.sleepTimeout ++ be16Bytes s.settings.topSpeed ++
      be16Bytes s.settings.acceleration ++ [flagsByte s.settings, 0x3E]))

/-- R207: QUERY(POSITION) replies a fresh position, most-significant byte first. The `oracle` clause is the model's own
(log 3). -/
def Obligations.PositionQueryRepliesAFreshPosition : Prop :=
  ∀ (s : State) (b0 b1 b2 b3 : Byte), s.nextCurrentPosition = b0 ++ b1 ++ b2 ++ b3 →
    exec .queryPosition s =
      .next { s with
        oracle := { s.oracle with
          currentPosition := s.oracle.currentPosition.tail, draws := s.oracle.draws + 1 }
        history := s.history ++ [.call (.currentPosition (b0 ++ b1 ++ b2 ++ b3)),
          .sent [0x3C, 0x41, 0x58, b0, b1, b2, b3, 0x3E]] }

/-- R89, R208: QUERY(MODE) replies the code of the controller state, in every state. -/
def Obligations.ModeQueryRepliesTheStateCode : Prop :=
  ∀ s : State, ∃ code : Byte, exec .queryMode s = .next (s.replied [0x3C, 0x41, 0x4F, code, 0x3E]) ∧
    (s.ctrl = .idle → code = 0x00) ∧ (s.ctrl = .moving → code = 0x01) ∧ (s.ctrl = .homing → code = 0x02) ∧
    (s.ctrl = .faulted → code = 0x03) ∧ (s.ctrl = .disabled → code = 0x04)

/-- R200, R201: QUERY by its sub-code byte: each listed byte is its sub-form, and every other byte is answered
FAULT(INVALID_PARAMETERS) with no side effect, in every state. That QUERY is a form of its own beside its seven
sub-forms is the model's choice (log 10). -/
def Obligations.QuerySelectsBySubCode : Prop :=
  ∀ s : State,
    exec (.query 0x4D) s = exec .queryModel s ∧ exec (.query 0x53) s = exec .querySerial s ∧
    exec (.query 0x56) s = exec .queryFirmware s ∧ exec (.query 0x46) s = exec .queryFaults s ∧
    exec (.query 0x50) s = exec .queryParameters s ∧ exec (.query 0x58) s = exec .queryPosition s ∧
    exec (.query 0x4F) s = exec .queryMode s ∧
    ∀ sub : Byte, sub ∉ ([0x4D, 0x53, 0x56, 0x46, 0x50, 0x58, 0x4F] : List Byte) →
      exec (.query sub) s = .next (s.replied invalidFrame)

/-- R210: ECHO replies its arguments, byte for byte, in every state, and changes nothing. -/
def Obligations.EchoRepliesItsArguments : Prop :=
  ∀ (s : State) (data : List Byte), exec (.echo data) s = .next (s.replied ([0x3C, 0x45] ++ data ++ [0x3E]))

/-- R211: no QUERY form and no ECHO writes `ctrl`, `cause`, `drv_en` or `settings`, and the only calls they make are the
reads of the fault registers and of the position. -/
def Obligations.QueryAndEchoAreReadOnly : Prop :=
  ∀ (s t : State) (i : Instr), (encode i).code = 0x51 ∨ (encode i).code = 0x45 → exec i s = .next t →
    t.ctrl = s.ctrl ∧ t.cause = s.cause ∧ t.drvEn = s.drvEn ∧ t.settings = s.settings ∧
      ∃ new, t.calls = s.calls ++ new ∧ ∀ c ∈ new, (∃ b, c = .readFault b) ∨ (∃ b, c = .readDiag1 b) ∨
        (∃ b, c = .readDiag2 b) ∨ ∃ p, c = .currentPosition p

/-- R206: after an UPDATE_PARAMETERS answered ACK, QUERY(PARAMETERS) replies the very image that was sent. -/
def Obligations.AcceptedImageIsReadBack : Prop :=
  ∀ (s t : State) (m : SettingsImage), exec (.updateParameters m) s = .next t →
    t.history.getLast? = some (.sent ackFrame) →
    exec .queryParameters t = .next (t.replied ([0x3C, 0x41, 0x50] ++ encodeImage m ++ [0x3E]))

/-! ## The control loop -/

/-- R235: Service, then Ingest until the queue is found empty, then Dispatch, then Service. -/
def Obligations.PhasesCycle : Prop :=
  ∀ s t : State, step s = .next t →
    (s.phase = .service → t.phase = .ingest) ∧
    (s.phase = .ingest → t.phase = if s.rxQ = [] then .dispatch else .ingest) ∧
    (s.phase = .dispatch → t.phase = .service)

/-- R236, R263, R266, R267: a fault polled in Service stops the motion, latches its cause and is reported at once; the
completion checks are skipped. The `oracle` clause is the model's own (log 3). -/
def Obligations.PolledFaultLatchesAndReports : Prop :=
  ∀ (s : State) (k : PollFault) (c : FaultCause), s.phase = .service → s.ctrl ≠ .faulted → s.nextPollFault = some k →
    (k = .driver → c = .driver) → (k = .limit1 → c = .limit1) → (k = .limit2 → c = .limit2) → (k = .home → c = .home) →
    step s =
      .next { s with
        phase := .ingest
        ctrl := .faulted
        cause := some c
        oracle := { s.oracle with pollFault := s.oracle.pollFault.tail, draws := s.oracle.draws + 1 }
        history := s.history ++ [.call (.pollFault (some k)), .call .stop, .sent (causeFrame c)] }

/-- R155, R236: Service while Moving, no fault polled: distance 0 is completion, DONE and Idle; any other distance is
not. The `oracle` clause is the model's own (log 3). -/
def Obligations.MotionCompletionAtZeroDistance : Prop :=
  ∀ (s : State) (d : I32), s.phase = .service → s.ctrl = .moving → s.nextPollFault = none →
    d = s.callPollFault.nextDistanceToGo →
    (d = 0 → step s =
      .next { s with
        phase := .ingest
        ctrl := .idle
        oracle := { s.oracle with
          pollFault := s.oracle.pollFault.tail, distanceToGo := s.oracle.distanceToGo.tail, draws := s.oracle.draws + 2 }
        history := s.history ++ [.call (.pollFault none), .call (.distanceToGo 0), .sent doneFrame] }) ∧
    (d ≠ 0 → step s =
      .next { s with
        phase := .ingest
        oracle := { s.oracle with
          pollFault := s.oracle.pollFault.tail, distanceToGo := s.oracle.distanceToGo.tail, draws := s.oracle.draws + 2 }
        history := s.history ++ [.call (.pollFault none), .call (.distanceToGo d)] })

/-- R156, R236: Service while Homing, no fault polled: Running changes nothing, Done is DONE and Idle, Failed enters
Faulted with HOME and reports it. The `oracle` clause is the model's own (log 3). -/
def Obligations.HomingCompletionByStatus : Prop :=
  ∀ (s : State) (h : HomeStatus) (o : Oracle), s.phase = .service → s.ctrl = .homing → s.nextPollFault = none →
    h = s.callPollFault.nextHomeStatus →
    o = { s.oracle with
      pollFault := s.oracle.pollFault.tail, homeStatus := s.oracle.homeStatus.tail, draws := s.oracle.draws + 2 } →
    (h = .running → step s =
      .next { s with phase := .ingest, oracle := o,
                     history := s.history ++ [.call (.pollFault none), .call (.homeStatus .running)] }) ∧
    (h = .done → step s =
      .next { s with phase := .ingest, oracle := o, ctrl := .idle,
                     history := s.history ++ [.call (.pollFault none), .call (.homeStatus .done), .sent doneFrame] }) ∧
    (h = .failed → step s =
      .next { s with phase := .ingest, oracle := o, ctrl := .faulted, cause := some .home,
                     history := s.history ++ [.call (.pollFault none), .call (.homeStatus .failed), .call .stop,
                       .sent (causeFrame .home)] })

/-- R236, R268, R270: Service while Faulted polls nothing and changes nothing; in Idle and Disabled it makes the fault
poll alone. The `oracle` clause is the model's own (log 3). -/
def Obligations.QuietServicePhases : Prop :=
  ∀ s : State, s.phase = .service →
    (s.ctrl = .faulted → step s = .next { s with phase := .ingest }) ∧
    (s.ctrl = .idle ∨ s.ctrl = .disabled → s.nextPollFault = none → step s =
      .next { s with
        phase := .ingest
        oracle := { s.oracle with pollFault := s.oracle.pollFault.tail, draws := s.oracle.draws + 1 }
        history := s.history ++ [.call (.pollFault none)] })

/-- R107, R237, R294: once a frame is Pending, the rest of the Ingest phase drops every byte and changes nothing else. -/
def Obligations.PendingFrameSurvivesTheIngestPhase : Prop :=
  ∀ s : State, s.phase = .ingest → s.rxState = .pending →
    Host.Core.run Sys2Proof.core (s.rxQ.length + 1) s = .next { s with phase := .dispatch, rxQ := [] }

/-- R235 to R238, R247: one whole iteration on whatever the host has queued ends at a quiescent point. -/
def Obligations.IterationReachesAQuiescentPoint : Prop :=
  ∀ s : State, s.Inv → s.phase = .service →
    ∃ t : State, Host.Core.run Sys2Proof.core (s.rxQ.length + 3) s = .next t ∧ t.Quiescent ∧ t.Inv

/-- R238: when the pending bytes decode to an instruction, the step takes the frame, runs `exec` of that instruction, and
sets the phase to Service. -/
def Obligations.StepRunsTheDecodedFrame : Prop :=
  ∀ (s : State) (f : Frame) (i : Instr), s.phase = .dispatch → s.rxState = .pending → s.buf = f.code :: f.args →
    decode f = .ok i →
    (∀ t, exec i { s with rxState := .waiting, buf := [] } = .next t → step s = .next { t with phase := .service }) ∧
    (∀ e, exec i { s with rxState := .waiting, buf := [] } = .fault e → step s = .fault e)

/-- R117, R237, R238: a well-formed command with no marker among its bytes, queued whole, is received, decoded and run as
itself: from its bytes in the queue to the effect of `exec`. -/
def Obligations.QueuedCommandIsReceivedAndRun : Prop :=
  ∀ (s t : State) (i : Instr), WellFormed i = true → deliverable i = true → s.phase = .ingest → s.rxState = .waiting →
    s.buf = [] → s.rxQ = wireBytes i →
    exec i { s with phase := .dispatch, rxQ := [], history := s.history ++ [.codec .frameReady] } = .next t →
    Host.Core.run Sys2Proof.core ((wireBytes i).length + 2) s = .next { t with phase := .service }

/-- R249, R266: Service never touches the codec or the queue, and Dispatch leaves a partial frame in Reading alone. -/
def Obligations.PartialFrameSurvivesServiceAndDispatch : Prop :=
  ∀ s t : State, step s = .next t →
    (s.phase = .service → t.rxState = s.rxState ∧ t.buf = s.buf ∧ t.rxQ = s.rxQ ∧ t.diag = s.diag) ∧
    (s.phase = .dispatch → s.rxState = .reading → t = { s with phase := .service })

/-! ## Whole-machine rules -/

/-- R173, R272: the only step that leaves Faulted dispatches a RESET whose clear answers true, and it leaves to the state the
enable line implies. -/
def Obligations.OnlyASuccessfulResetLeavesFaulted : Prop :=
  ∀ s t : State, s.ctrl = .faulted → step s = .next t → t.ctrl ≠ .faulted →
    s.Dispatches .reset ∧ s.nextClearFaults = true ∧ t.cause = none ∧ t.ctrl = if s.drvEn then .idle else .disabled

/-- R142: `move_to` and `home` are called only by a dispatched GOTO or HOME, and only in Idle, Moving or Homing. -/
def Obligations.MotionIsCommandedOnlyWhenLegal : Prop :=
  ∀ (s t : State) (new : List Call) (c : Call), step s = .next t → t.calls = s.calls ++ new → c ∈ new →
    (∀ target, c = .moveTo target → s.Dispatches (.goto target)) ∧ (c = .home → s.Dispatches .home) ∧
    ((c = .home ∨ ∃ target, c = .moveTo target) → s.ctrl = .idle ∨ s.ctrl = .moving ∨ s.ctrl = .homing)

/-- R157: DONE is emitted only in Service, by a step that finds the controller Moving or Homing and leaves it Idle. -/
def Obligations.DoneOnlyAtCompletion : Prop :=
  ∀ (s t : State) (new : List (List Byte)), step s = .next t → t.frames = s.frames ++ new → doneFrame ∈ new →
    s.phase = .service ∧ (s.ctrl = .moving ∨ s.ctrl = .homing) ∧ t.ctrl = .idle ∧ new = [doneFrame]

/-- R29, R181: the settings change only when a dispatched UPDATE_PARAMETERS, in Idle or Disabled, carries an image that
`validate` accepts, and then to the whole record of that image. -/
def Obligations.SettingsChangeOnlyByAnAcceptedUpdate : Prop :=
  ∀ s t : State, step s = .next t → t.settings ≠ s.settings →
    ∃ m, s.Dispatches (.updateParameters m) ∧ validate m = true ∧ (s.ctrl = .idle ∨ s.ctrl = .disabled) ∧
      t.settings = decodeSettings m

/-- R25: `drv_en` changes only by a dispatched ENABLE, to true, or DISABLE, to false. -/
def Obligations.EnableLineChangesOnlyByItsCommands : Prop :=
  ∀ s t : State, step s = .next t → t.drvEn ≠ s.drvEn →
    (s.Dispatches .enable ∧ t.drvEn = true) ∨ (s.Dispatches .disable ∧ t.drvEn = false)
end

