-- ==== Sys2Proof/Laws/State.lean ====
section
/-! SUPPORT. One lemma per field of State, and per log it holds, for every named update, so that no later proof unfolds a
record update. -/

namespace Sys2Proof.Machine

/-! ### `call` -/

@[simp] theorem State.call_rxState (s : State) (c : Call) : (s.call c).rxState = s.rxState := rfl
@[simp] theorem State.call_buf (s : State) (c : Call) : (s.call c).buf = s.buf := rfl
@[simp] theorem State.call_ctrl (s : State) (c : Call) : (s.call c).ctrl = s.ctrl := rfl
@[simp] theorem State.call_phase (s : State) (c : Call) : (s.call c).phase = s.phase := rfl
@[simp] theorem State.call_drvEn (s : State) (c : Call) : (s.call c).drvEn = s.drvEn := rfl
@[simp] theorem State.call_cause (s : State) (c : Call) : (s.call c).cause = s.cause := rfl
@[simp] theorem State.call_settings (s : State) (c : Call) : (s.call c).settings = s.settings := rfl
@[simp] theorem State.call_history (s : State) (c : Call) : (s.call c).history = s.history ++ [.call c] := rfl
@[simp] theorem State.call_rxQ (s : State) (c : Call) : (s.call c).rxQ = s.rxQ := rfl
@[simp] theorem State.call_oracle (s : State) (c : Call) : (s.call c).oracle = s.oracle := rfl
@[simp] theorem State.call_frames (s : State) (c : Call) : (s.call c).frames = s.frames := by
  simp [State.frames, State.call_history]
@[simp] theorem State.call_calls (s : State) (c : Call) : (s.call c).calls = s.calls ++ [c] := by
  simp [State.calls, State.call_history]
@[simp] theorem State.call_diag (s : State) (c : Call) : (s.call c).diag = s.diag := by
  simp [State.diag, State.call_history]

/-! ### `callPollFault` -/

@[simp] theorem State.callPollFault_rxState (s : State) : (s.callPollFault).rxState = s.rxState := rfl
@[simp] theorem State.callPollFault_buf (s : State) : (s.callPollFault).buf = s.buf := rfl
@[simp] theorem State.callPollFault_ctrl (s : State) : (s.callPollFault).ctrl = s.ctrl := rfl
@[simp] theorem State.callPollFault_phase (s : State) : (s.callPollFault).phase = s.phase := rfl
@[simp] theorem State.callPollFault_drvEn (s : State) : (s.callPollFault).drvEn = s.drvEn := rfl
@[simp] theorem State.callPollFault_cause (s : State) : (s.callPollFault).cause = s.cause := rfl
@[simp] theorem State.callPollFault_settings (s : State) : (s.callPollFault).settings = s.settings := rfl
@[simp] theorem State.callPollFault_history (s : State) :
    (s.callPollFault).history = s.history ++ [.call (.pollFault s.nextPollFault)] := rfl
@[simp] theorem State.callPollFault_rxQ (s : State) : (s.callPollFault).rxQ = s.rxQ := rfl
@[simp] theorem State.callPollFault_oracle (s : State) :
    (s.callPollFault).oracle = { s.oracle with pollFault := s.oracle.pollFault.tail, draws := s.oracle.draws + 1 } := rfl
@[simp] theorem State.callPollFault_frames (s : State) : (s.callPollFault).frames = s.frames := by
  simp [State.frames, State.callPollFault_history]
@[simp] theorem State.callPollFault_calls (s : State) :
    (s.callPollFault).calls = s.calls ++ [.pollFault s.nextPollFault] := by
  simp [State.calls, State.callPollFault_history]
@[simp] theorem State.callPollFault_diag (s : State) : (s.callPollFault).diag = s.diag := by
  simp [State.diag, State.callPollFault_history]

/-! ### `callDistanceToGo` -/

@[simp] theorem State.callDistanceToGo_rxState (s : State) : (s.callDistanceToGo).rxState = s.rxState := rfl
@[simp] theorem State.callDistanceToGo_buf (s : State) : (s.callDistanceToGo).buf = s.buf := rfl
@[simp] theorem State.callDistanceToGo_ctrl (s : State) : (s.callDistanceToGo).ctrl = s.ctrl := rfl
@[simp] theorem State.callDistanceToGo_phase (s : State) : (s.callDistanceToGo).phase = s.phase := rfl
@[simp] theorem State.callDistanceToGo_drvEn (s : State) : (s.callDistanceToGo).drvEn = s.drvEn := rfl
@[simp] theorem State.callDistanceToGo_cause (s : State) : (s.callDistanceToGo).cause = s.cause := rfl
@[simp] theorem State.callDistanceToGo_settings (s : State) : (s.callDistanceToGo).settings = s.settings := rfl
@[simp] theorem State.callDistanceToGo_history (s : State) :
    (s.callDistanceToGo).history = s.history ++ [.call (.distanceToGo s.nextDistanceToGo)] := rfl
@[simp] theorem State.callDistanceToGo_rxQ (s : State) : (s.callDistanceToGo).rxQ = s.rxQ := rfl
@[simp] theorem State.callDistanceToGo_oracle (s : State) :
    (s.callDistanceToGo).oracle = { s.oracle with distanceToGo := s.oracle.distanceToGo.tail, draws := s.oracle.draws + 1 } := rfl
@[simp] theorem State.callDistanceToGo_frames (s : State) : (s.callDistanceToGo).frames = s.frames := by
  simp [State.frames, State.callDistanceToGo_history]
@[simp] theorem State.callDistanceToGo_calls (s : State) :
    (s.callDistanceToGo).calls = s.calls ++ [.distanceToGo s.nextDistanceToGo] := by
  simp [State.calls, State.callDistanceToGo_history]
@[simp] theorem State.callDistanceToGo_diag (s : State) : (s.callDistanceToGo).diag = s.diag := by
  simp [State.diag, State.callDistanceToGo_history]

/-! ### `callCurrentPosition` -/

@[simp] theorem State.callCurrentPosition_rxState (s : State) : (s.callCurrentPosition).rxState = s.rxState := rfl
@[simp] theorem State.callCurrentPosition_buf (s : State) : (s.callCurrentPosition).buf = s.buf := rfl
@[simp] theorem State.callCurrentPosition_ctrl (s : State) : (s.callCurrentPosition).ctrl = s.ctrl := rfl
@[simp] theorem State.callCurrentPosition_phase (s : State) : (s.callCurrentPosition).phase = s.phase := rfl
@[simp] theorem State.callCurrentPosition_drvEn (s : State) : (s.callCurrentPosition).drvEn = s.drvEn := rfl
@[simp] theorem State.callCurrentPosition_cause (s : State) : (s.callCurrentPosition).cause = s.cause := rfl
@[simp] theorem State.callCurrentPosition_settings (s : State) : (s.callCurrentPosition).settings = s.settings := rfl
@[simp] theorem State.callCurrentPosition_history (s : State) :
    (s.callCurrentPosition).history = s.history ++ [.call (.currentPosition s.nextCurrentPosition)] := rfl
@[simp] theorem State.callCurrentPosition_rxQ (s : State) : (s.callCurrentPosition).rxQ = s.rxQ := rfl
@[simp] theorem State.callCurrentPosition_oracle (s : State) :
    (s.callCurrentPosition).oracle = { s.oracle with currentPosition := s.oracle.currentPosition.tail, draws := s.oracle.draws + 1 } := rfl
@[simp] theorem State.callCurrentPosition_frames (s : State) : (s.callCurrentPosition).frames = s.frames := by
  simp [State.frames, State.callCurrentPosition_history]
@[simp] theorem State.callCurrentPosition_calls (s : State) :
    (s.callCurrentPosition).calls = s.calls ++ [.currentPosition s.nextCurrentPosition] := by
  simp [State.calls, State.callCurrentPosition_history]
@[simp] theorem State.callCurrentPosition_diag (s : State) : (s.callCurrentPosition).diag = s.diag := by
  simp [State.diag, State.callCurrentPosition_history]

/-! ### `callHomeStatus` -/

@[simp] theorem State.callHomeStatus_rxState (s : State) : (s.callHomeStatus).rxState = s.rxState := rfl
@[simp] theorem State.callHomeStatus_buf (s : State) : (s.callHomeStatus).buf = s.buf := rfl
@[simp] theorem State.callHomeStatus_ctrl (s : State) : (s.callHomeStatus).ctrl = s.ctrl := rfl
@[simp] theorem State.callHomeStatus_phase (s : State) : (s.callHomeStatus).phase = s.phase := rfl
@[simp] theorem State.callHomeStatus_drvEn (s : State) : (s.callHomeStatus).drvEn = s.drvEn := rfl
@[simp] theorem State.callHomeStatus_cause (s : State) : (s.callHomeStatus).cause = s.cause := rfl
@[simp] theorem State.callHomeStatus_settings (s : State) : (s.callHomeStatus).settings = s.settings := rfl
@[simp] theorem State.callHomeStatus_history (s : State) :
    (s.callHomeStatus).history = s.history ++ [.call (.homeStatus s.nextHomeStatus)] := rfl
@[simp] theorem State.callHomeStatus_rxQ (s : State) : (s.callHomeStatus).rxQ = s.rxQ := rfl
@[simp] theorem State.callHomeStatus_oracle (s : State) :
    (s.callHomeStatus).oracle = { s.oracle with homeStatus := s.oracle.homeStatus.tail, draws := s.oracle.draws + 1 } := rfl
@[simp] theorem State.callHomeStatus_frames (s : State) : (s.callHomeStatus).frames = s.frames := by
  simp [State.frames, State.callHomeStatus_history]
@[simp] theorem State.callHomeStatus_calls (s : State) :
    (s.callHomeStatus).calls = s.calls ++ [.homeStatus s.nextHomeStatus] := by
  simp [State.calls, State.callHomeStatus_history]
@[simp] theorem State.callHomeStatus_diag (s : State) : (s.callHomeStatus).diag = s.diag := by
  simp [State.diag, State.callHomeStatus_history]

/-! ### `callClearFaults` -/

@[simp] theorem State.callClearFaults_rxState (s : State) : (s.callClearFaults).rxState = s.rxState := rfl
@[simp] theorem State.callClearFaults_buf (s : State) : (s.callClearFaults).buf = s.buf := rfl
@[simp] theorem State.callClearFaults_ctrl (s : State) : (s.callClearFaults).ctrl = s.ctrl := rfl
@[simp] theorem State.callClearFaults_phase (s : State) : (s.callClearFaults).phase = s.phase := rfl
@[simp] theorem State.callClearFaults_drvEn (s : State) : (s.callClearFaults).drvEn = s.drvEn := rfl
@[simp] theorem State.callClearFaults_cause (s : State) : (s.callClearFaults).cause = s.cause := rfl
@[simp] theorem State.callClearFaults_settings (s : State) : (s.callClearFaults).settings = s.settings := rfl
@[simp] theorem State.callClearFaults_history (s : State) :
    (s.callClearFaults).history = s.history ++ [.call (.clearFaults s.nextClearFaults)] := rfl
@[simp] theorem State.callClearFaults_rxQ (s : State) : (s.callClearFaults).rxQ = s.rxQ := rfl
@[simp] theorem State.callClearFaults_oracle (s : State) :
    (s.callClearFaults).oracle = { s.oracle with clearFaults := s.oracle.clearFaults.tail, draws := s.oracle.draws + 1 } := rfl
@[simp] theorem State.callClearFaults_frames (s : State) : (s.callClearFaults).frames = s.frames := by
  simp [State.frames, State.callClearFaults_history]
@[simp] theorem State.callClearFaults_calls (s : State) :
    (s.callClearFaults).calls = s.calls ++ [.clearFaults s.nextClearFaults] := by
  simp [State.calls, State.callClearFaults_history]
@[simp] theorem State.callClearFaults_diag (s : State) : (s.callClearFaults).diag = s.diag := by
  simp [State.diag, State.callClearFaults_history]

/-! ### `callReadFault` -/

@[simp] theorem State.callReadFault_rxState (s : State) : (s.callReadFault).rxState = s.rxState := rfl
@[simp] theorem State.callReadFault_buf (s : State) : (s.callReadFault).buf = s.buf := rfl
@[simp] theorem State.callReadFault_ctrl (s : State) : (s.callReadFault).ctrl = s.ctrl := rfl
@[simp] theorem State.callReadFault_phase (s : State) : (s.callReadFault).phase = s.phase := rfl
@[simp] theorem State.callReadFault_drvEn (s : State) : (s.callReadFault).drvEn = s.drvEn := rfl
@[simp] theorem State.callReadFault_cause (s : State) : (s.callReadFault).cause = s.cause := rfl
@[simp] theorem State.callReadFault_settings (s : State) : (s.callReadFault).settings = s.settings := rfl
@[simp] theorem State.callReadFault_history (s : State) :
    (s.callReadFault).history = s.history ++ [.call (.readFault s.nextReadFault)] := rfl
@[simp] theorem State.callReadFault_rxQ (s : State) : (s.callReadFault).rxQ = s.rxQ := rfl
@[simp] theorem State.callReadFault_oracle (s : State) :
    (s.callReadFault).oracle = { s.oracle with readFault := s.oracle.readFault.tail, draws := s.oracle.draws + 1 } := rfl
@[simp] theorem State.callReadFault_frames (s : State) : (s.callReadFault).frames = s.frames := by
  simp [State.frames, State.callReadFault_history]
@[simp] theorem State.callReadFault_calls (s : State) :
    (s.callReadFault).calls = s.calls ++ [.readFault s.nextReadFault] := by
  simp [State.calls, State.callReadFault_history]
@[simp] theorem State.callReadFault_diag (s : State) : (s.callReadFault).diag = s.diag := by
  simp [State.diag, State.callReadFault_history]

/-! ### `callReadDiag1` -/

@[simp] theorem State.callReadDiag1_rxState (s : State) : (s.callReadDiag1).rxState = s.rxState := rfl
@[simp] theorem State.callReadDiag1_buf (s : State) : (s.callReadDiag1).buf = s.buf := rfl
@[simp] theorem State.callReadDiag1_ctrl (s : State) : (s.callReadDiag1).ctrl = s.ctrl := rfl
@[simp] theorem State.callReadDiag1_phase (s : State) : (s.callReadDiag1).phase = s.phase := rfl
@[simp] theorem State.callReadDiag1_drvEn (s : State) : (s.callReadDiag1).drvEn = s.drvEn := rfl
@[simp] theorem State.callReadDiag1_cause (s : State) : (s.callReadDiag1).cause = s.cause := rfl
@[simp] theorem State.callReadDiag1_settings (s : State) : (s.callReadDiag1).settings = s.settings := rfl
@[simp] theorem State.callReadDiag1_history (s : State) :
    (s.callReadDiag1).history = s.history ++ [.call (.readDiag1 s.nextReadDiag1)] := rfl
@[simp] theorem State.callReadDiag1_rxQ (s : State) : (s.callReadDiag1).rxQ = s.rxQ := rfl
@[simp] theorem State.callReadDiag1_oracle (s : State) :
    (s.callReadDiag1).oracle = { s.oracle with readDiag1 := s.oracle.readDiag1.tail, draws := s.oracle.draws + 1 } := rfl
@[simp] theorem State.callReadDiag1_frames (s : State) : (s.callReadDiag1).frames = s.frames := by
  simp [State.frames, State.callReadDiag1_history]
@[simp] theorem State.callReadDiag1_calls (s : State) :
    (s.callReadDiag1).calls = s.calls ++ [.readDiag1 s.nextReadDiag1] := by
  simp [State.calls, State.callReadDiag1_history]
@[simp] theorem State.callReadDiag1_diag (s : State) : (s.callReadDiag1).diag = s.diag := by
  simp [State.diag, State.callReadDiag1_history]

/-! ### `callReadDiag2` -/

@[simp] theorem State.callReadDiag2_rxState (s : State) : (s.callReadDiag2).rxState = s.rxState := rfl
@[simp] theorem State.callReadDiag2_buf (s : State) : (s.callReadDiag2).buf = s.buf := rfl
@[simp] theorem State.callReadDiag2_ctrl (s : State) : (s.callReadDiag2).ctrl = s.ctrl := rfl
@[simp] theorem State.callReadDiag2_phase (s : State) : (s.callReadDiag2).phase = s.phase := rfl
@[simp] theorem State.callReadDiag2_drvEn (s : State) : (s.callReadDiag2).drvEn = s.drvEn := rfl
@[simp] theorem State.callReadDiag2_cause (s : State) : (s.callReadDiag2).cause = s.cause := rfl
@[simp] theorem State.callReadDiag2_settings (s : State) : (s.callReadDiag2).settings = s.settings := rfl
@[simp] theorem State.callReadDiag2_history (s : State) :
    (s.callReadDiag2).history = s.history ++ [.call (.readDiag2 s.nextReadDiag2)] := rfl
@[simp] theorem State.callReadDiag2_rxQ (s : State) : (s.callReadDiag2).rxQ = s.rxQ := rfl
@[simp] theorem State.callReadDiag2_oracle (s : State) :
    (s.callReadDiag2).oracle = { s.oracle with readDiag2 := s.oracle.readDiag2.tail, draws := s.oracle.draws + 1 } := rfl
@[simp] theorem State.callReadDiag2_frames (s : State) : (s.callReadDiag2).frames = s.frames := by
  simp [State.frames, State.callReadDiag2_history]
@[simp] theorem State.callReadDiag2_calls (s : State) :
    (s.callReadDiag2).calls = s.calls ++ [.readDiag2 s.nextReadDiag2] := by
  simp [State.calls, State.callReadDiag2_history]
@[simp] theorem State.callReadDiag2_diag (s : State) : (s.callReadDiag2).diag = s.diag := by
  simp [State.diag, State.callReadDiag2_history]

/-! ### `callVerify` -/

@[simp] theorem State.callVerify_rxState (s : State) : (s.callVerify).rxState = s.rxState := rfl
@[simp] theorem State.callVerify_buf (s : State) : (s.callVerify).buf = s.buf := rfl
@[simp] theorem State.callVerify_ctrl (s : State) : (s.callVerify).ctrl = s.ctrl := rfl
@[simp] theorem State.callVerify_phase (s : State) : (s.callVerify).phase = s.phase := rfl
@[simp] theorem State.callVerify_drvEn (s : State) : (s.callVerify).drvEn = s.drvEn := rfl
@[simp] theorem State.callVerify_cause (s : State) : (s.callVerify).cause = s.cause := rfl
@[simp] theorem State.callVerify_settings (s : State) : (s.callVerify).settings = s.settings := rfl
@[simp] theorem State.callVerify_history (s : State) :
    (s.callVerify).history = s.history ++ [.call (.verifySettingsCommitted s.nextVerify)] := rfl
@[simp] theorem State.callVerify_rxQ (s : State) : (s.callVerify).rxQ = s.rxQ := rfl
@[simp] theorem State.callVerify_oracle (s : State) :
    (s.callVerify).oracle = { s.oracle with verify := s.oracle.verify.tail, draws := s.oracle.draws + 1 } := rfl
@[simp] theorem State.callVerify_frames (s : State) : (s.callVerify).frames = s.frames := by
  simp [State.frames, State.callVerify_history]
@[simp] theorem State.callVerify_calls (s : State) :
    (s.callVerify).calls = s.calls ++ [.verifySettingsCommitted s.nextVerify] := by
  simp [State.calls, State.callVerify_history]
@[simp] theorem State.callVerify_diag (s : State) : (s.callVerify).diag = s.diag := by
  simp [State.diag, State.callVerify_history]

/-! ### `delay` -/

@[simp] theorem State.delay_rxState (s : State) (d : Nat) : (s.delay d).rxState = s.rxState := rfl
@[simp] theorem State.delay_buf (s : State) (d : Nat) : (s.delay d).buf = s.buf := rfl
@[simp] theorem State.delay_ctrl (s : State) (d : Nat) : (s.delay d).ctrl = s.ctrl := rfl
@[simp] theorem State.delay_phase (s : State) (d : Nat) : (s.delay d).phase = s.phase := rfl
@[simp] theorem State.delay_drvEn (s : State) (d : Nat) : (s.delay d).drvEn = s.drvEn := rfl
@[simp] theorem State.delay_cause (s : State) (d : Nat) : (s.delay d).cause = s.cause := rfl
@[simp] theorem State.delay_settings (s : State) (d : Nat) : (s.delay d).settings = s.settings := rfl
@[simp] theorem State.delay_history (s : State) (d : Nat) : (s.delay d).history = s.history := rfl
@[simp] theorem State.delay_rxQ (s : State) (d : Nat) : (s.delay d).rxQ = s.rxQ := rfl
@[simp] theorem State.delay_oracle (s : State) (d : Nat) : (s.delay d).oracle = s.oracle := rfl
@[simp] theorem State.delay_frames (s : State) (d : Nat) : (s.delay d).frames = s.frames := rfl
@[simp] theorem State.delay_calls (s : State) (d : Nat) : (s.delay d).calls = s.calls := rfl
@[simp] theorem State.delay_diag (s : State) (d : Nat) : (s.delay d).diag = s.diag := rfl

/-! ### `emit` -/

@[simp] theorem State.emit_rxState (s : State) (r : Reply) : (s.emit r).rxState = s.rxState := rfl
@[simp] theorem State.emit_buf (s : State) (r : Reply) : (s.emit r).buf = s.buf := rfl
@[simp] theorem State.emit_ctrl (s : State) (r : Reply) : (s.emit r).ctrl = s.ctrl := rfl
@[simp] theorem State.emit_phase (s : State) (r : Reply) : (s.emit r).phase = s.phase := rfl
@[simp] theorem State.emit_drvEn (s : State) (r : Reply) : (s.emit r).drvEn = s.drvEn := rfl
@[simp] theorem State.emit_cause (s : State) (r : Reply) : (s.emit r).cause = s.cause := rfl
@[simp] theorem State.emit_settings (s : State) (r : Reply) : (s.emit r).settings = s.settings := rfl
@[simp] theorem State.emit_history (s : State) (r : Reply) : (s.emit r).history = s.history ++ [.sent r.frame] := rfl
@[simp] theorem State.emit_rxQ (s : State) (r : Reply) : (s.emit r).rxQ = s.rxQ := rfl
@[simp] theorem State.emit_oracle (s : State) (r : Reply) : (s.emit r).oracle = s.oracle := rfl
@[simp] theorem State.emit_frames (s : State) (r : Reply) : (s.emit r).frames = s.frames ++ [r.frame] := by
  simp [State.frames, State.emit_history]
@[simp] theorem State.emit_calls (s : State) (r : Reply) : (s.emit r).calls = s.calls := by
  simp [State.calls, State.emit_history]
@[simp] theorem State.emit_diag (s : State) (r : Reply) : (s.emit r).diag = s.diag := by
  simp [State.diag, State.emit_history]

/-! ### `enterFault` -/

@[simp] theorem State.enterFault_rxState (s : State) (c : FaultCause) : (s.enterFault c).rxState = s.rxState := rfl
@[simp] theorem State.enterFault_buf (s : State) (c : FaultCause) : (s.enterFault c).buf = s.buf := rfl
@[simp] theorem State.enterFault_ctrl (s : State) (c : FaultCause) : (s.enterFault c).ctrl = .faulted := rfl
@[simp] theorem State.enterFault_phase (s : State) (c : FaultCause) : (s.enterFault c).phase = s.phase := rfl
@[simp] theorem State.enterFault_drvEn (s : State) (c : FaultCause) : (s.enterFault c).drvEn = s.drvEn := rfl
@[simp] theorem State.enterFault_cause (s : State) (c : FaultCause) : (s.enterFault c).cause = some c := rfl
@[simp] theorem State.enterFault_settings (s : State) (c : FaultCause) : (s.enterFault c).settings = s.settings := rfl
@[simp] theorem State.enterFault_history (s : State) (c : FaultCause) :
    (s.enterFault c).history = s.history ++ [.call .stop] := rfl
@[simp] theorem State.enterFault_rxQ (s : State) (c : FaultCause) : (s.enterFault c).rxQ = s.rxQ := rfl
@[simp] theorem State.enterFault_oracle (s : State) (c : FaultCause) : (s.enterFault c).oracle = s.oracle := rfl
@[simp] theorem State.enterFault_frames (s : State) (c : FaultCause) : (s.enterFault c).frames = s.frames := by
  simp [State.frames, State.enterFault_history]
@[simp] theorem State.enterFault_calls (s : State) (c : FaultCause) : (s.enterFault c).calls = s.calls ++ [.stop] := by
  simp [State.calls, State.enterFault_history]
@[simp] theorem State.enterFault_diag (s : State) (c : FaultCause) : (s.enterFault c).diag = s.diag := by
  simp [State.diag, State.enterFault_history]

/-! ### `faultProactively` -/

@[simp] theorem State.faultProactively_rxState (s : State) (c : FaultCause) :
    (s.faultProactively c).rxState = s.rxState := rfl
@[simp] theorem State.faultProactively_buf (s : State) (c : FaultCause) : (s.faultProactively c).buf = s.buf := rfl
@[simp] theorem State.faultProactively_ctrl (s : State) (c : FaultCause) : (s.faultProactively c).ctrl = .faulted := rfl
@[simp] theorem State.faultProactively_phase (s : State) (c : FaultCause) :
    (s.faultProactively c).phase = s.phase := rfl
@[simp] theorem State.faultProactively_drvEn (s : State) (c : FaultCause) :
    (s.faultProactively c).drvEn = s.drvEn := rfl
@[simp] theorem State.faultProactively_cause (s : State) (c : FaultCause) : (s.faultProactively c).cause = some c := rfl
@[simp] theorem State.faultProactively_settings (s : State) (c : FaultCause) :
    (s.faultProactively c).settings = s.settings := rfl
@[simp] theorem State.faultProactively_history (s : State) (c : FaultCause) :
    (s.faultProactively c).history = s.history ++ [.call .stop, .sent (Reply.fault c.code).frame] := by
  simp [State.faultProactively, State.enterFault, State.call, State.emit]
@[simp] theorem State.faultProactively_rxQ (s : State) (c : FaultCause) : (s.faultProactively c).rxQ = s.rxQ := rfl
@[simp] theorem State.faultProactively_oracle (s : State) (c : FaultCause) :
    (s.faultProactively c).oracle = s.oracle := rfl
@[simp] theorem State.faultProactively_frames (s : State) (c : FaultCause) :
    (s.faultProactively c).frames = s.frames ++ [(Reply.fault c.code).frame] := by
  simp [State.frames, State.faultProactively_history]
@[simp] theorem State.faultProactively_calls (s : State) (c : FaultCause) :
    (s.faultProactively c).calls = s.calls ++ [.stop] := by
  simp [State.calls, State.faultProactively_history]
@[simp] theorem State.faultProactively_diag (s : State) (c : FaultCause) : (s.faultProactively c).diag = s.diag := by
  simp [State.diag, State.faultProactively_history]

/-! ### `leaveFault` -/

@[simp] theorem State.leaveFault_rxState (s : State) : (s.leaveFault).rxState = s.rxState := rfl
@[simp] theorem State.leaveFault_buf (s : State) : (s.leaveFault).buf = s.buf := rfl
@[simp] theorem State.leaveFault_ctrl (s : State) : (s.leaveFault).ctrl = if s.drvEn then .idle else .disabled := rfl
@[simp] theorem State.leaveFault_phase (s : State) : (s.leaveFault).phase = s.phase := rfl
@[simp] theorem State.leaveFault_drvEn (s : State) : (s.leaveFault).drvEn = s.drvEn := rfl
@[simp] theorem State.leaveFault_cause (s : State) : (s.leaveFault).cause = none := rfl
@[simp] theorem State.leaveFault_settings (s : State) : (s.leaveFault).settings = s.settings := rfl
@[simp] theorem State.leaveFault_history (s : State) : (s.leaveFault).history = s.history := rfl
@[simp] theorem State.leaveFault_rxQ (s : State) : (s.leaveFault).rxQ = s.rxQ := rfl
@[simp] theorem State.leaveFault_oracle (s : State) : (s.leaveFault).oracle = s.oracle := rfl
@[simp] theorem State.leaveFault_frames (s : State) : (s.leaveFault).frames = s.frames := rfl
@[simp] theorem State.leaveFault_calls (s : State) : (s.leaveFault).calls = s.calls := rfl
@[simp] theorem State.leaveFault_diag (s : State) : (s.leaveFault).diag = s.diag := rfl

/-! ### `discardFrame` -/

@[simp] theorem State.discardFrame_rxState (s : State) (r : FramingError) : (s.discardFrame r).rxState = .waiting := rfl
@[simp] theorem State.discardFrame_buf (s : State) (r : FramingError) : (s.discardFrame r).buf = [] := rfl
@[simp] theorem State.discardFrame_ctrl (s : State) (r : FramingError) : (s.discardFrame r).ctrl = s.ctrl := rfl
@[simp] theorem State.discardFrame_phase (s : State) (r : FramingError) : (s.discardFrame r).phase = s.phase := rfl
@[simp] theorem State.discardFrame_drvEn (s : State) (r : FramingError) : (s.discardFrame r).drvEn = s.drvEn := rfl
@[simp] theorem State.discardFrame_cause (s : State) (r : FramingError) : (s.discardFrame r).cause = s.cause := rfl
@[simp] theorem State.discardFrame_settings (s : State) (r : FramingError) :
    (s.discardFrame r).settings = s.settings := rfl
@[simp] theorem State.discardFrame_history (s : State) (r : FramingError) :
    (s.discardFrame r).history = s.history ++ [.codec (.error r)] := rfl
@[simp] theorem State.discardFrame_rxQ (s : State) (r : FramingError) : (s.discardFrame r).rxQ = s.rxQ := rfl
@[simp] theorem State.discardFrame_oracle (s : State) (r : FramingError) : (s.discardFrame r).oracle = s.oracle := rfl
@[simp] theorem State.discardFrame_frames (s : State) (r : FramingError) : (s.discardFrame r).frames = s.frames := by
  simp [State.frames, State.discardFrame_history]
@[simp] theorem State.discardFrame_calls (s : State) (r : FramingError) : (s.discardFrame r).calls = s.calls := by
  simp [State.calls, State.discardFrame_history]
@[simp] theorem State.discardFrame_diag (s : State) (r : FramingError) :
    (s.discardFrame r).diag = s.diag ++ [.error r] := by
  simp [State.diag, State.discardFrame_history]

/-! ### `holdFrame` -/

@[simp] theorem State.holdFrame_rxState (s : State) (bytes : List Byte) : (s.holdFrame bytes).rxState = .pending := rfl
@[simp] theorem State.holdFrame_buf (s : State) (bytes : List Byte) : (s.holdFrame bytes).buf = bytes := rfl
@[simp] theorem State.holdFrame_ctrl (s : State) (bytes : List Byte) : (s.holdFrame bytes).ctrl = s.ctrl := rfl
@[simp] theorem State.holdFrame_phase (s : State) (bytes : List Byte) : (s.holdFrame bytes).phase = s.phase := rfl
@[simp] theorem State.holdFrame_drvEn (s : State) (bytes : List Byte) : (s.holdFrame bytes).drvEn = s.drvEn := rfl
@[simp] theorem State.holdFrame_cause (s : State) (bytes : List Byte) : (s.holdFrame bytes).cause = s.cause := rfl
@[simp] theorem State.holdFrame_settings (s : State) (bytes : List Byte) :
    (s.holdFrame bytes).settings = s.settings := rfl
@[simp] theorem State.holdFrame_history (s : State) (bytes : List Byte) : (s.holdFrame bytes).history = s.history := rfl
@[simp] theorem State.holdFrame_rxQ (s : State) (bytes : List Byte) : (s.holdFrame bytes).rxQ = s.rxQ := rfl
@[simp] theorem State.holdFrame_oracle (s : State) (bytes : List Byte) : (s.holdFrame bytes).oracle = s.oracle := rfl
@[simp] theorem State.holdFrame_frames (s : State) (bytes : List Byte) : (s.holdFrame bytes).frames = s.frames := rfl
@[simp] theorem State.holdFrame_calls (s : State) (bytes : List Byte) : (s.holdFrame bytes).calls = s.calls := rfl
@[simp] theorem State.holdFrame_diag (s : State) (bytes : List Byte) : (s.holdFrame bytes).diag = s.diag := rfl

/-! ### `driveEnableOn` -/

@[simp] theorem State.driveEnableOn_rxState (s : State) : (s.driveEnableOn).rxState = s.rxState := rfl
@[simp] theorem State.driveEnableOn_buf (s : State) : (s.driveEnableOn).buf = s.buf := rfl
@[simp] theorem State.driveEnableOn_ctrl (s : State) : (s.driveEnableOn).ctrl = s.ctrl := rfl
@[simp] theorem State.driveEnableOn_phase (s : State) : (s.driveEnableOn).phase = s.phase := rfl
@[simp] theorem State.driveEnableOn_drvEn (s : State) : (s.driveEnableOn).drvEn = true := rfl
@[simp] theorem State.driveEnableOn_cause (s : State) : (s.driveEnableOn).cause = s.cause := rfl
@[simp] theorem State.driveEnableOn_settings (s : State) : (s.driveEnableOn).settings = s.settings := rfl
@[simp] theorem State.driveEnableOn_history (s : State) :
    (s.driveEnableOn).history = s.history ++ [.call .enable] := rfl
@[simp] theorem State.driveEnableOn_rxQ (s : State) : (s.driveEnableOn).rxQ = s.rxQ := rfl
@[simp] theorem State.driveEnableOn_oracle (s : State) : (s.driveEnableOn).oracle = s.oracle := rfl
@[simp] theorem State.driveEnableOn_frames (s : State) : (s.driveEnableOn).frames = s.frames := by
  simp [State.frames, State.driveEnableOn_history]
@[simp] theorem State.driveEnableOn_calls (s : State) : (s.driveEnableOn).calls = s.calls ++ [.enable] := by
  simp [State.calls, State.driveEnableOn_history]
@[simp] theorem State.driveEnableOn_diag (s : State) : (s.driveEnableOn).diag = s.diag := by
  simp [State.diag, State.driveEnableOn_history]

/-! ### `driveEnableOff` -/

@[simp] theorem State.driveEnableOff_rxState (s : State) : (s.driveEnableOff).rxState = s.rxState := rfl
@[simp] theorem State.driveEnableOff_buf (s : State) : (s.driveEnableOff).buf = s.buf := rfl
@[simp] theorem State.driveEnableOff_ctrl (s : State) : (s.driveEnableOff).ctrl = s.ctrl := rfl
@[simp] theorem State.driveEnableOff_phase (s : State) : (s.driveEnableOff).phase = s.phase := rfl
@[simp] theorem State.driveEnableOff_drvEn (s : State) : (s.driveEnableOff).drvEn = false := rfl
@[simp] theorem State.driveEnableOff_cause (s : State) : (s.driveEnableOff).cause = s.cause := rfl
@[simp] theorem State.driveEnableOff_settings (s : State) : (s.driveEnableOff).settings = s.settings := rfl
@[simp] theorem State.driveEnableOff_history (s : State) :
    (s.driveEnableOff).history = s.history ++ [.call .disable] := rfl
@[simp] theorem State.driveEnableOff_rxQ (s : State) : (s.driveEnableOff).rxQ = s.rxQ := rfl
@[simp] theorem State.driveEnableOff_oracle (s : State) : (s.driveEnableOff).oracle = s.oracle := rfl
@[simp] theorem State.driveEnableOff_frames (s : State) : (s.driveEnableOff).frames = s.frames := by
  simp [State.frames, State.driveEnableOff_history]
@[simp] theorem State.driveEnableOff_calls (s : State) : (s.driveEnableOff).calls = s.calls ++ [.disable] := by
  simp [State.calls, State.driveEnableOff_history]
@[simp] theorem State.driveEnableOff_diag (s : State) : (s.driveEnableOff).diag = s.diag := by
  simp [State.diag, State.driveEnableOff_history]

/-! ### `setCtrl` -/

@[simp] theorem State.setCtrl_rxState (s : State) (c : Ctrl) : (s.setCtrl c).rxState = s.rxState := rfl
@[simp] theorem State.setCtrl_buf (s : State) (c : Ctrl) : (s.setCtrl c).buf = s.buf := rfl
@[simp] theorem State.setCtrl_ctrl (s : State) (c : Ctrl) : (s.setCtrl c).ctrl = c := rfl
@[simp] theorem State.setCtrl_phase (s : State) (c : Ctrl) : (s.setCtrl c).phase = s.phase := rfl
@[simp] theorem State.setCtrl_drvEn (s : State) (c : Ctrl) : (s.setCtrl c).drvEn = s.drvEn := rfl
@[simp] theorem State.setCtrl_cause (s : State) (c : Ctrl) : (s.setCtrl c).cause = s.cause := rfl
@[simp] theorem State.setCtrl_settings (s : State) (c : Ctrl) : (s.setCtrl c).settings = s.settings := rfl
@[simp] theorem State.setCtrl_history (s : State) (c : Ctrl) : (s.setCtrl c).history = s.history := rfl
@[simp] theorem State.setCtrl_rxQ (s : State) (c : Ctrl) : (s.setCtrl c).rxQ = s.rxQ := rfl
@[simp] theorem State.setCtrl_oracle (s : State) (c : Ctrl) : (s.setCtrl c).oracle = s.oracle := rfl
@[simp] theorem State.setCtrl_frames (s : State) (c : Ctrl) : (s.setCtrl c).frames = s.frames := rfl
@[simp] theorem State.setCtrl_calls (s : State) (c : Ctrl) : (s.setCtrl c).calls = s.calls := rfl
@[simp] theorem State.setCtrl_diag (s : State) (c : Ctrl) : (s.setCtrl c).diag = s.diag := rfl

/-! ### `setPhase` -/

@[simp] theorem State.setPhase_rxState (s : State) (p : Phase) : (s.setPhase p).rxState = s.rxState := rfl
@[simp] theorem State.setPhase_buf (s : State) (p : Phase) : (s.setPhase p).buf = s.buf := rfl
@[simp] theorem State.setPhase_ctrl (s : State) (p : Phase) : (s.setPhase p).ctrl = s.ctrl := rfl
@[simp] theorem State.setPhase_phase (s : State) (p : Phase) : (s.setPhase p).phase = p := rfl
@[simp] theorem State.setPhase_drvEn (s : State) (p : Phase) : (s.setPhase p).drvEn = s.drvEn := rfl
@[simp] theorem State.setPhase_cause (s : State) (p : Phase) : (s.setPhase p).cause = s.cause := rfl
@[simp] theorem State.setPhase_settings (s : State) (p : Phase) : (s.setPhase p).settings = s.settings := rfl
@[simp] theorem State.setPhase_history (s : State) (p : Phase) : (s.setPhase p).history = s.history := rfl
@[simp] theorem State.setPhase_rxQ (s : State) (p : Phase) : (s.setPhase p).rxQ = s.rxQ := rfl
@[simp] theorem State.setPhase_oracle (s : State) (p : Phase) : (s.setPhase p).oracle = s.oracle := rfl
@[simp] theorem State.setPhase_frames (s : State) (p : Phase) : (s.setPhase p).frames = s.frames := rfl
@[simp] theorem State.setPhase_calls (s : State) (p : Phase) : (s.setPhase p).calls = s.calls := rfl
@[simp] theorem State.setPhase_diag (s : State) (p : Phase) : (s.setPhase p).diag = s.diag := rfl

/-! ### `setSettings` -/

@[simp] theorem State.setSettings_rxState (s : State) (r : Settings) : (s.setSettings r).rxState = s.rxState := rfl
@[simp] theorem State.setSettings_buf (s : State) (r : Settings) : (s.setSettings r).buf = s.buf := rfl
@[simp] theorem State.setSettings_ctrl (s : State) (r : Settings) : (s.setSettings r).ctrl = s.ctrl := rfl
@[simp] theorem State.setSettings_phase (s : State) (r : Settings) : (s.setSettings r).phase = s.phase := rfl
@[simp] theorem State.setSettings_drvEn (s : State) (r : Settings) : (s.setSettings r).drvEn = s.drvEn := rfl
@[simp] theorem State.setSettings_cause (s : State) (r : Settings) : (s.setSettings r).cause = s.cause := rfl
@[simp] theorem State.setSettings_settings (s : State) (r : Settings) : (s.setSettings r).settings = r := rfl
@[simp] theorem State.setSettings_history (s : State) (r : Settings) : (s.setSettings r).history = s.history := rfl
@[simp] theorem State.setSettings_rxQ (s : State) (r : Settings) : (s.setSettings r).rxQ = s.rxQ := rfl
@[simp] theorem State.setSettings_oracle (s : State) (r : Settings) : (s.setSettings r).oracle = s.oracle := rfl
@[simp] theorem State.setSettings_frames (s : State) (r : Settings) : (s.setSettings r).frames = s.frames := rfl
@[simp] theorem State.setSettings_calls (s : State) (r : Settings) : (s.setSettings r).calls = s.calls := rfl
@[simp] theorem State.setSettings_diag (s : State) (r : Settings) : (s.setSettings r).diag = s.diag := rfl

/-! ### `dropRead` -/

@[simp] theorem State.dropRead_rxState (s : State) : (s.dropRead).rxState = s.rxState := rfl
@[simp] theorem State.dropRead_buf (s : State) : (s.dropRead).buf = s.buf := rfl
@[simp] theorem State.dropRead_ctrl (s : State) : (s.dropRead).ctrl = s.ctrl := rfl
@[simp] theorem State.dropRead_phase (s : State) : (s.dropRead).phase = s.phase := rfl
@[simp] theorem State.dropRead_drvEn (s : State) : (s.dropRead).drvEn = s.drvEn := rfl
@[simp] theorem State.dropRead_cause (s : State) : (s.dropRead).cause = s.cause := rfl
@[simp] theorem State.dropRead_settings (s : State) : (s.dropRead).settings = s.settings := rfl
@[simp] theorem State.dropRead_history (s : State) : (s.dropRead).history = s.history := rfl
@[simp] theorem State.dropRead_rxQ (s : State) : (s.dropRead).rxQ = s.rxQ.tail := rfl
@[simp] theorem State.dropRead_oracle (s : State) : (s.dropRead).oracle = s.oracle := rfl
@[simp] theorem State.dropRead_frames (s : State) : (s.dropRead).frames = s.frames := rfl
@[simp] theorem State.dropRead_calls (s : State) : (s.dropRead).calls = s.calls := rfl
@[simp] theorem State.dropRead_diag (s : State) : (s.dropRead).diag = s.diag := rfl

/-! ### `startFrame` -/

@[simp] theorem State.startFrame_rxState (s : State) : (s.startFrame).rxState = .reading := rfl
@[simp] theorem State.startFrame_buf (s : State) : (s.startFrame).buf = [] := rfl
@[simp] theorem State.startFrame_ctrl (s : State) : (s.startFrame).ctrl = s.ctrl := rfl
@[simp] theorem State.startFrame_phase (s : State) : (s.startFrame).phase = s.phase := rfl
@[simp] theorem State.startFrame_drvEn (s : State) : (s.startFrame).drvEn = s.drvEn := rfl
@[simp] theorem State.startFrame_cause (s : State) : (s.startFrame).cause = s.cause := rfl
@[simp] theorem State.startFrame_settings (s : State) : (s.startFrame).settings = s.settings := rfl
@[simp] theorem State.startFrame_history (s : State) : (s.startFrame).history = s.history := rfl
@[simp] theorem State.startFrame_rxQ (s : State) : (s.startFrame).rxQ = s.rxQ := rfl
@[simp] theorem State.startFrame_oracle (s : State) : (s.startFrame).oracle = s.oracle := rfl
@[simp] theorem State.startFrame_frames (s : State) : (s.startFrame).frames = s.frames := rfl
@[simp] theorem State.startFrame_calls (s : State) : (s.startFrame).calls = s.calls := rfl
@[simp] theorem State.startFrame_diag (s : State) : (s.startFrame).diag = s.diag := rfl

/-! ### `appendByte` -/

@[simp] theorem State.appendByte_rxState (s : State) (b : Byte) : (s.appendByte b).rxState = s.rxState := rfl
@[simp] theorem State.appendByte_buf (s : State) (b : Byte) : (s.appendByte b).buf = s.buf ++ [b] := rfl
@[simp] theorem State.appendByte_ctrl (s : State) (b : Byte) : (s.appendByte b).ctrl = s.ctrl := rfl
@[simp] theorem State.appendByte_phase (s : State) (b : Byte) : (s.appendByte b).phase = s.phase := rfl
@[simp] theorem State.appendByte_drvEn (s : State) (b : Byte) : (s.appendByte b).drvEn = s.drvEn := rfl
@[simp] theorem State.appendByte_cause (s : State) (b : Byte) : (s.appendByte b).cause = s.cause := rfl
@[simp] theorem State.appendByte_settings (s : State) (b : Byte) : (s.appendByte b).settings = s.settings := rfl
@[simp] theorem State.appendByte_history (s : State) (b : Byte) : (s.appendByte b).history = s.history := rfl
@[simp] theorem State.appendByte_rxQ (s : State) (b : Byte) : (s.appendByte b).rxQ = s.rxQ := rfl
@[simp] theorem State.appendByte_oracle (s : State) (b : Byte) : (s.appendByte b).oracle = s.oracle := rfl
@[simp] theorem State.appendByte_frames (s : State) (b : Byte) : (s.appendByte b).frames = s.frames := rfl
@[simp] theorem State.appendByte_calls (s : State) (b : Byte) : (s.appendByte b).calls = s.calls := rfl
@[simp] theorem State.appendByte_diag (s : State) (b : Byte) : (s.appendByte b).diag = s.diag := rfl

/-! ### `completeFrame` -/

@[simp] theorem State.completeFrame_rxState (s : State) : (s.completeFrame).rxState = .pending := rfl
@[simp] theorem State.completeFrame_buf (s : State) : (s.completeFrame).buf = s.buf := rfl
@[simp] theorem State.completeFrame_ctrl (s : State) : (s.completeFrame).ctrl = s.ctrl := rfl
@[simp] theorem State.completeFrame_phase (s : State) : (s.completeFrame).phase = s.phase := rfl
@[simp] theorem State.completeFrame_drvEn (s : State) : (s.completeFrame).drvEn = s.drvEn := rfl
@[simp] theorem State.completeFrame_cause (s : State) : (s.completeFrame).cause = s.cause := rfl
@[simp] theorem State.completeFrame_settings (s : State) : (s.completeFrame).settings = s.settings := rfl
@[simp] theorem State.completeFrame_history (s : State) :
    (s.completeFrame).history = s.history ++ [.codec .frameReady] := rfl
@[simp] theorem State.completeFrame_rxQ (s : State) : (s.completeFrame).rxQ = s.rxQ := rfl
@[simp] theorem State.completeFrame_oracle (s : State) : (s.completeFrame).oracle = s.oracle := rfl
@[simp] theorem State.completeFrame_frames (s : State) : (s.completeFrame).frames = s.frames := by
  simp [State.frames, State.completeFrame_history]
@[simp] theorem State.completeFrame_calls (s : State) : (s.completeFrame).calls = s.calls := by
  simp [State.calls, State.completeFrame_history]
@[simp] theorem State.completeFrame_diag (s : State) : (s.completeFrame).diag = s.diag ++ [.frameReady] := by
  simp [State.diag, State.completeFrame_history]

/-! ### `releaseFrame` -/

@[simp] theorem State.releaseFrame_rxState (s : State) : (s.releaseFrame).rxState = .waiting := rfl
@[simp] theorem State.releaseFrame_buf (s : State) : (s.releaseFrame).buf = [] := rfl
@[simp] theorem State.releaseFrame_ctrl (s : State) : (s.releaseFrame).ctrl = s.ctrl := rfl
@[simp] theorem State.releaseFrame_phase (s : State) : (s.releaseFrame).phase = s.phase := rfl
@[simp] theorem State.releaseFrame_drvEn (s : State) : (s.releaseFrame).drvEn = s.drvEn := rfl
@[simp] theorem State.releaseFrame_cause (s : State) : (s.releaseFrame).cause = s.cause := rfl
@[simp] theorem State.releaseFrame_settings (s : State) : (s.releaseFrame).settings = s.settings := rfl
@[simp] theorem State.releaseFrame_history (s : State) : (s.releaseFrame).history = s.history := rfl
@[simp] theorem State.releaseFrame_rxQ (s : State) : (s.releaseFrame).rxQ = s.rxQ := rfl
@[simp] theorem State.releaseFrame_oracle (s : State) : (s.releaseFrame).oracle = s.oracle := rfl
@[simp] theorem State.releaseFrame_frames (s : State) : (s.releaseFrame).frames = s.frames := rfl
@[simp] theorem State.releaseFrame_calls (s : State) : (s.releaseFrame).calls = s.calls := rfl
@[simp] theorem State.releaseFrame_diag (s : State) : (s.releaseFrame).diag = s.diag := rfl

/-! ### `hostAppend` -/

@[simp] theorem State.hostAppend_rxState (s : State) (b : Byte) : (s.hostAppend b).rxState = s.rxState := rfl
@[simp] theorem State.hostAppend_buf (s : State) (b : Byte) : (s.hostAppend b).buf = s.buf := rfl
@[simp] theorem State.hostAppend_ctrl (s : State) (b : Byte) : (s.hostAppend b).ctrl = s.ctrl := rfl
@[simp] theorem State.hostAppend_phase (s : State) (b : Byte) : (s.hostAppend b).phase = s.phase := rfl
@[simp] theorem State.hostAppend_drvEn (s : State) (b : Byte) : (s.hostAppend b).drvEn = s.drvEn := rfl
@[simp] theorem State.hostAppend_cause (s : State) (b : Byte) : (s.hostAppend b).cause = s.cause := rfl
@[simp] theorem State.hostAppend_settings (s : State) (b : Byte) : (s.hostAppend b).settings = s.settings := rfl
@[simp] theorem State.hostAppend_history (s : State) (b : Byte) : (s.hostAppend b).history = s.history := rfl
@[simp] theorem State.hostAppend_rxQ (s : State) (b : Byte) : (s.hostAppend b).rxQ = s.rxQ ++ [b] := rfl
@[simp] theorem State.hostAppend_oracle (s : State) (b : Byte) : (s.hostAppend b).oracle = s.oracle := rfl
@[simp] theorem State.hostAppend_frames (s : State) (b : Byte) : (s.hostAppend b).frames = s.frames := rfl
@[simp] theorem State.hostAppend_calls (s : State) (b : Byte) : (s.hostAppend b).calls = s.calls := rfl
@[simp] theorem State.hostAppend_diag (s : State) (b : Byte) : (s.hostAppend b).diag = s.diag := rfl

/-! ### The logs depend on the history alone -/

theorem State.frames_congr {s t : State} (h : t.history = s.history) : t.frames = s.frames := by
  simp [State.frames, h]

theorem State.calls_congr {s t : State} (h : t.history = s.history) : t.calls = s.calls := by
  simp [State.calls, h]

theorem State.diag_congr {s t : State} (h : t.history = s.history) : t.diag = s.diag := by
  simp [State.diag, h]

end Sys2Proof.Machine
end

