-- ==== Sys2Proof/Laws/Codec.lean ====
section
/-! SUPPORT. What the Frame Codec can do, said once (R101 to R109), and feeding sequences of bytes. -/

namespace Sys2Proof.Machine

theorem classOf_start : classOf Config.pStart = .start := by decide

theorem classOf_end : classOf Config.pEnd = .stop := by decide

theorem classOf_data {b : Byte} (h : isMarker b = false) : classOf b = .data := by
  simp only [isMarker, Bool.or_eq_false_iff, beq_eq_false_iff_ne] at h
  simp [classOf, h.1, h.2]

theorem isMarker_eq_false_iff (b : Byte) : isMarker b = false ↔ b ≠ 0x3C ∧ b ≠ 0x3E := by
  simp [isMarker, Config.pStart, Config.pEnd]

/-- A byte is the start marker, the end marker, or DATA (R71). -/
theorem byte_cases (b : Byte) : b = Config.pStart ∨ b = Config.pEnd ∨ isMarker b = false := by
  by_cases h1 : b = Config.pStart
  · exact .inl h1
  · by_cases h2 : b = Config.pEnd
    · exact .inr (.inl h2)
    · exact .inr (.inr (by simp [isMarker, h1, h2]))

/-- All that `feed` can answer a state with: the rows of R116. -/
theorem feed_ok {b : Byte} {s t : State} (h : feed b s = .ok t) :
    t = s ∨ t = s.startFrame ∨ (∃ r, t = s.discardFrame r) ∨
      (s.rxState = .reading ∧ s.buf ≠ [] ∧ t = s.completeFrame) ∨
      (s.rxState = .reading ∧ s.buf.length < Config.pCap ∧ isMarker b = false ∧ t = s.appendByte b) := by
  unfold feed at h
  split at h
  · cases h
    unfold feedWaiting
    split <;> simp
  · next hr =>
    rcases byte_cases b with rfl | rfl | hb
    · simp only [feedReading, classOf_start] at h; cases h
      exact .inr (.inr (.inl ⟨_, rfl⟩))
    · simp only [feedReading, classOf_end] at h
      split at h <;> cases h
      · exact .inr (.inr (.inl ⟨_, rfl⟩))
      · next hl => exact .inr (.inr (.inr (.inl ⟨hr, fun e => hl (by simp [e]), rfl⟩)))
    · simp only [feedReading, classOf_data hb] at h
      split at h
      · next hl => cases h; exact .inr (.inr (.inr (.inr ⟨hr, hl, hb, rfl⟩)))
      · split at h <;> cases h
        exact .inr (.inr (.inl ⟨_, rfl⟩))
  · cases h; exact .inl rfl

/-- `feed` stops only on a buffer over capacity (log 7). -/
theorem feed_error {b : Byte} {s : State} {e : Fault} (h : feed b s = .error e) : Config.pCap < s.buf.length := by
  unfold feed at h
  split at h
  · cases h
  · unfold feedReading at h
    split at h
    · cases h
    · split at h <;> cases h
    · split at h
      · cases h
      · split at h
        · cases h
        · omega
  · cases h

/-- All that `takeFrame` can answer (R109). -/
theorem takeFrame_ok {s t : State} {fo : Option Frame} (h : takeFrame s = .ok (fo, t)) :
    (s.rxState ≠ .pending ∧ fo = none ∧ t = s) ∨
      (s.rxState = .pending ∧ ∃ f : Frame, s.buf = f.bytes ∧ fo = some f ∧ t = s.releaseFrame) := by
  unfold takeFrame at h
  split at h
  · next hr =>
    split at h
    · next f hf =>
      cases h
      refine .inr ⟨hr, f, ?_, rfl, rfl⟩
      unfold Frame.ofBytes? at hf
      split at hf <;> cases hf
      simp_all [Frame.bytes]
    · cases h
  · next hr => cases h; exact .inl ⟨by simp [hr], rfl, rfl⟩
  · next hr => cases h; exact .inl ⟨by simp [hr], rfl, rfl⟩

/-- `takeFrame` stops only on an empty buffer in Pending (log 6). -/
theorem takeFrame_error {s : State} {e : Fault} (h : takeFrame s = .error e) : s.rxState = .pending ∧ s.buf = [] := by
  unfold takeFrame at h
  split at h
  · next hr =>
    split at h
    · cases h
    · next hf =>
      refine ⟨hr, ?_⟩
      unfold Frame.ofBytes? at hf
      split at hf
      · assumption
      · cases hf
  · cases h
  · cases h

/-- A pending frame is taken whole. -/
theorem takeFrame_of_pending {s : State} (f : Frame) (hr : s.rxState = .pending) (hb : s.buf = f.bytes) :
    takeFrame s = .ok (some f, s.releaseFrame) := by
  simp [takeFrame, hr, hb, Frame.bytes, Frame.ofBytes?]

/-- Feeding two sequences one after the other. -/
theorem feedAll_append {xs ys : List Byte} {s t : State} (h : feedAll xs s = .ok t) :
    feedAll (xs ++ ys) s = feedAll ys t := by
  induction xs generalizing s with
  | nil => simp only [feedAll] at h; cases h; rfl
  | cons x xs ih =>
    simp only [List.cons_append, feedAll] at h ⊢
    split at h
    · next s' hs => exact ih h
    · cases h

/-- Nothing is fed in Pending (R107). -/
theorem feedAll_pending {s : State} (h : s.rxState = .pending) (xs : List Byte) : feedAll xs s = .ok s := by
  induction xs with
  | nil => rfl
  | cons x xs ih => simp [feedAll, feed, h, ih]

/-- Bytes with no start marker are noise in Waiting (R102). -/
theorem feedAll_waiting {s : State} (h : s.rxState = .waiting) {xs : List Byte}
    (hx : ∀ b ∈ xs, b ≠ Config.pStart) : feedAll xs s = .ok s := by
  induction xs with
  | nil => rfl
  | cons x xs ih =>
    have hs : feed x s = .ok s := by
      rcases byte_cases x with rfl | rfl | hd
      · exact absurd rfl (hx _ (by simp))
      · simp [feed, h, feedWaiting, classOf_end]
      · simp [feed, h, feedWaiting, classOf_data hd]
    simp only [feedAll, hs]
    exact ih fun b hb => hx b (by simp [hb])

/-- DATA bytes that fit are appended in Reading (R106). -/
theorem feedAll_reading {s : State} (h : s.rxState = .reading) {xs : List Byte} (hx : ∀ b ∈ xs, isMarker b = false)
    (hl : s.buf.length + xs.length ≤ Config.pCap) : feedAll xs s = .ok { s with buf := s.buf ++ xs } := by
  induction xs generalizing s with
  | nil => simp [feedAll]
  | cons x xs ih =>
    simp only [List.length_cons] at hl
    have hs : feed x s = .ok (s.appendByte x) := by
      have h0 : s.buf.length < Config.pCap := by omega
      simp [feed, h, feedReading, classOf_data (hx x (by simp)), h0]
    simp only [feedAll, hs]
    rw [ih (s := s.appendByte x) h (fun b hb => hx b (by simp [hb])) (by simp; omega)]
    simp [State.appendByte]

end Sys2Proof.Machine
end

