-- ==== Sys2Proof/Laws/Decode.lean ====
section
/-! SUPPORT. Big-endian assembly and splitting undo each other (R8, R51, R91), and the code tables' lookups find the code they
are given (R76, R87). -/

namespace Sys2Proof

theorem be16_be16Bytes (v : U16) : be16 (v.extractLsb' 8 8) (v.extractLsb' 0 8) = v := by
  unfold be16
  apply BitVec.eq_of_toNat_eq
  simp [BitVec.toNat_add, BitVec.toNat_mul, Nat.shiftRight_eq_div_pow]
  omega

theorem be16Bytes_be16 (b0 b1 : Byte) : be16Bytes (be16 b0 b1) = [b0, b1] := by
  unfold be16 be16Bytes
  simp only [List.cons.injEq, and_true]
  constructor <;> apply BitVec.eq_of_toNat_eq <;>
    simp [BitVec.toNat_add, BitVec.toNat_mul, Nat.shiftRight_eq_div_pow] <;> omega

theorem be32s_be32Bytes (v : I32) :
    be32s (v.extractLsb' 24 8) (v.extractLsb' 16 8) (v.extractLsb' 8 8) (v.extractLsb' 0 8) = v := by
  unfold be32s
  apply BitVec.eq_of_getLsbD_eq
  intro i hi
  simp only [BitVec.getLsbD_extractLsb', BitVec.getLsbD_append]
  split
  · simp [*]
  · split
    · simp [show i - 8 < 8 by omega]; congr 1; omega
    · split
      · simp [show i - 8 - 8 < 8 by omega]; congr 1; omega
      · simp [show i - 8 - 8 - 8 < 8 by omega]; congr 1; omega

theorem be32Bytes_be32s (b0 b1 b2 b3 : Byte) : be32Bytes (be32s b0 b1 b2 b3) = [b0, b1, b2, b3] := by
  simp only [be32Bytes, be32s, List.cons.injEq, and_true]
  refine ⟨?_, ?_, ?_, ?_⟩ <;> apply BitVec.eq_of_getLsbD_eq <;> intro i hi <;>
    simp only [BitVec.getLsbD_extractLsb', BitVec.getLsbD_append, hi, decide_true, Bool.true_and]
  · rw [if_neg (by omega), if_neg (by omega), if_neg (by omega)]; congr 1; omega
  · rw [if_neg (by omega), if_neg (by omega), if_pos (by omega)]; congr 1; omega
  · rw [if_neg (by omega), if_pos (by omega)]; congr 1; omega
  · rw [if_pos (by omega)]; congr 1; omega

theorem code_of_ofCode {b : Byte} {cmd : Command} (h : Command.ofCode? b = some cmd) : cmd.code = b := by
  simpa using List.find?_some h

theorem ofCode_code (cmd : Command) : Command.ofCode? cmd.code = some cmd := by cases cmd <;> rfl

theorem subCode_of_ofCode {b : Byte} {q : QuerySub} (h : QuerySub.ofCode? b = some q) : q.code = b := by
  simpa using List.find?_some h

theorem subOfCode_code (q : QuerySub) : QuerySub.ofCode? q.code = some q := by cases q <;> rfl

/-- The argument decoder answers exactly when the count is one the command takes (R78, R137). -/
theorem decodeArgs_isSome (cmd : Command) (args : List Byte) :
    (decodeArgs cmd args).isSome = cmd.argLenOk args.length := by
  cases cmd <;> simp only [decodeArgs, Command.argLenOk]
  case goto =>
    split
    · rfl
    · next h =>
      symm; simp only [Option.isSome_none, beq_eq_false_iff_ne]
      rintro hl; obtain ⟨a, b, c, d, rfl⟩ := List.length_eq_four.1 hl; exact h _ _ _ _ rfl
  case updateParameters =>
    split
    · rfl
    · next h =>
      symm; simp only [Option.isSome_none, beq_eq_false_iff_ne]
      rintro hl
      match args, hl with
      | [_, _, _, _, _, _, _, _, _, _], _ => exact h _ _ _ _ _ _ _ _ _ _ rfl
  case query =>
    split
    · rfl
    · next h =>
      symm; simp only [Option.isSome_none, beq_eq_false_iff_ne]
      rintro hl; obtain ⟨a, rfl⟩ := List.length_eq_one_iff.1 hl; exact h _ rfl
  case echo => split <;> simp_all
  all_goals (split <;> simp_all)

/-- All that `decode` can answer (R76 to R78). -/
theorem decode_cases (f : Frame) :
    (Command.ofCode? f.code = none ∧ decode f = .error (.unknownCommand f.code)) ∨
      (∃ cmd, Command.ofCode? f.code = some cmd ∧ cmd.argLenOk f.args.length = false ∧
        decode f = .error (.malformedLength cmd)) ∨
      (∃ cmd i, Command.ofCode? f.code = some cmd ∧ cmd.argLenOk f.args.length = true ∧
        decodeArgs cmd f.args = some i ∧ decode f = .ok i) := by
  unfold decode
  cases hc : Command.ofCode? f.code with
  | none => simp
  | some cmd =>
    have hs := decodeArgs_isSome cmd f.args
    cases ha : decodeArgs cmd f.args with
    | none => exact .inr (.inl ⟨cmd, rfl, by simpa [ha] using hs.symm, by simp [ha]⟩)
    | some i => exact .inr (.inr ⟨cmd, i, rfl, by simpa [ha] using hs.symm, ha, by simp [ha]⟩)

end Sys2Proof
end

