-- ==== Sys2Proof/Laws/Dispatch.lean ====
section
/-! SUPPORT. What `exec` can do, said once: every arm is the gate, a rule and one reply, and what each rule leaves alone. -/

namespace Sys2Proof.Machine

/-- The command each instruction is a form of (R76, R200). -/
def commandOf : Instr → Command
  | .goto _             => .goto
  | .stop               => .stop
  | .home               => .home
  | .resetPosition      => .resetPosition
  | .reset              => .reset
  | .enable             => .enable
  | .disable            => .disable
  | .updateParameters _ => .updateParameters
  | .query _            => .query
  | .echo _             => .echo
  | .queryModel         => .query
  | .querySerial        => .query
  | .queryFirmware      => .query
  | .queryFaults        => .query
  | .queryParameters    => .query
  | .queryPosition      => .query
  | .queryMode          => .query

/-- The rule each instruction runs once the gate has passed. -/
def ruleOf : Instr → State → RuleResult
  | .goto target        => gotoRule target
  | .stop               => stopRule
  | .home               => homeRule
  | .resetPosition      => resetPositionRule
  | .reset              => resetRule
  | .enable             => enableRule
  | .disable            => disableRule
  | .updateParameters m => updateParametersRule m
  | .query sub          => queryRule sub
  | .echo data          => echoRule data
  | .queryModel         => modelRule
  | .querySerial        => serialRule
  | .queryFirmware      => firmwareRule
  | .queryFaults        => faultsRule
  | .queryParameters    => parametersRule
  | .queryPosition      => positionRule
  | .queryMode          => modeRule

/-- Every arm of `exec` is the gate of its command around its rule. -/
theorem exec_eq_runCommand (i : Instr) (s : State) : exec i s = runCommand (commandOf i) (ruleOf i) s := by
  cases i <;> rfl

/-- A command the gate passes runs its rule and emits its one reply. -/
theorem runCommand_of_passes {cmd : Command} {rule : State → RuleResult} {s s' : State} {r : Reply}
    (hg : gatePasses cmd s.ctrl = true) (h : rule s = .ok (s', r)) : runCommand cmd rule s = .next (s'.emit r) := by
  simp [runCommand, hg, h]

/-- A command the gate refuses emits FAULT(NACK) and does nothing else (R139). -/
theorem runCommand_of_refused {cmd : Command} {rule : State → RuleResult} {s : State}
    (hg : gatePasses cmd s.ctrl = false) : runCommand cmd rule s = .next (s.emit (.fault .nack)) := by
  simp [runCommand, hg]

/-- All that a gated command can answer a next state with. -/
theorem runCommand_next {cmd : Command} {rule : State → RuleResult} {s t : State} (h : runCommand cmd rule s = .next t) :
    (gatePasses cmd s.ctrl = false ∧ t = s.emit (.fault .nack)) ∨
      (gatePasses cmd s.ctrl = true ∧ ∃ s' r, rule s = .ok (s', r) ∧ t = s'.emit r) := by
  unfold runCommand at h
  split at h
  · next hg =>
    split at h
    · next s' r hr => cases h; exact .inr ⟨hg, s', r, hr, rfl⟩
    · cases h
  · next hg => cases h; exact .inl ⟨by simpa using hg, rfl⟩

/-- `exec` never refuses. -/
theorem exec_ne_refused (i : Instr) (s : State) (r : Refusal) : exec i s ≠ .refused r := by
  rw [exec_eq_runCommand]
  unfold runCommand
  split
  · split <;> simp
  · simp

/-- The queries' dispatch is one of the eight rules of 44_commands_query_echo.md. -/
theorem queryRule_cases (sub : Byte) :
    queryRule sub = modelRule ∨ queryRule sub = serialRule ∨ queryRule sub = firmwareRule ∨
      queryRule sub = faultsRule ∨ queryRule sub = parametersRule ∨ queryRule sub = positionRule ∨
      queryRule sub = modeRule ∨ queryRule sub = unknownSubRule := by
  unfold queryRule; split <;> simp

end Sys2Proof.Machine
end

