-- ==== Sys2Proof/Laws/Ops.lean ====
section
/-! SUPPORT. What the shared operations can do, said once: the reply frames as bytes (R85), the constraints of R97, the
verify loop (R180), and what a rule leaves alone. -/

namespace Sys2Proof.Machine

/-! ## Reply frames, as the bytes of R85 -/

theorem frame_ack : Reply.ack.frame = [0x3C, 0x41, 0x3E] := rfl
theorem frame_done : Reply.done.frame = [0x3C, 0x44, 0x3E] := rfl
theorem frame_fault (c : FaultCode) : (Reply.fault c).frame = [0x3C, 0x46, c.byte, 0x3E] := rfl
theorem frame_ack_eq_encode0 : Reply.ack.frame = encode0 ReplyCode.ack.byte := rfl
theorem frame_done_eq_encode0 : Reply.done.frame = encode0 ReplyCode.done.byte := rfl
theorem frame_fault_eq_encode1 (c : FaultCode) : (Reply.fault c).frame = encode1 ReplyCode.fault.byte c.byte := rfl
theorem frame_echo (bytes : List Byte) : (Reply.echo bytes).frame = [0x3C, 0x45] ++ bytes ++ [0x3E] := rfl
theorem frame_data (q : QuerySub) (bytes : List Byte) :
    (Reply.data q bytes).frame = [0x3C, 0x41, q.code] ++ bytes ++ [0x3E] := rfl

/-! ## The constraints of R97 on the code tables -/

theorem command_codes_distinct {a b : Command} (h : a.code = b.code) : a = b := by
  revert h; cases a <;> cases b <;> decide

theorem reply_codes_distinct {a b : ReplyCode} (h : a.byte = b.byte) : a = b := by
  revert h; cases a <;> cases b <;> decide

theorem fault_codes_distinct {a b : FaultCode} (h : a.byte = b.byte) : a = b := by
  revert h; cases a <;> cases b <;> decide

theorem query_codes_distinct {a b : QuerySub} (h : a.code = b.code) : a = b := by
  revert h; cases a <;> cases b <;> decide

theorem codes_are_no_markers :
    (∀ c : Command, isMarker c.code = false) ∧ (∀ c : ReplyCode, isMarker c.byte = false) ∧
      (∀ c : FaultCode, isMarker c.byte = false) ∧ ∀ q : QuerySub, isMarker q.code = false := by
  refine ⟨?_, ?_, ?_, ?_⟩ <;> intro c <;> cases c <;> decide

theorem start_ne_end : Config.pStart ≠ Config.pEnd := by decide

/-! ## The verify loop -/

/-- The answers of the calls that follow a call of `verify_settings_committed`. -/
theorem verifyAnswer_callVerify (s : State) (k : Nat) : s.callVerify.verifyAnswer k = s.verifyAnswer (k + 1) := by
  unfold State.verifyAnswer
  simp only [State.callVerify_oracle, List.getElem?_tail]
  rw [Nat.add_assoc, Nat.add_comm 1 k]

/-- The first of those answers is the next one. -/
theorem verifyAnswer_zero (s : State) : s.verifyAnswer 0 = s.nextVerify := by
  unfold State.verifyAnswer State.nextVerify
  cases s.oracle.verify <;> rfl

/-- `s` after `n` polls that answered false and one more that answered `a` (R180). -/
def State.polled (s : State) (n : Nat) (a : Bool) : State :=
  { s with
    oracle := { s.oracle with verify := s.oracle.verify.drop (n + 1), draws := s.oracle.draws + (n + 1) }
    history := s.history ++ (List.replicate n (.call (.verifySettingsCommitted false)) ++
      [.call (.verifySettingsCommitted a)]) }

@[simp] theorem polled_rxState (s : State) (n : Nat) (a : Bool) : (s.polled n a).rxState = s.rxState := rfl
@[simp] theorem polled_buf (s : State) (n : Nat) (a : Bool) : (s.polled n a).buf = s.buf := rfl
@[simp] theorem polled_ctrl (s : State) (n : Nat) (a : Bool) : (s.polled n a).ctrl = s.ctrl := rfl
@[simp] theorem polled_phase (s : State) (n : Nat) (a : Bool) : (s.polled n a).phase = s.phase := rfl
@[simp] theorem polled_drvEn (s : State) (n : Nat) (a : Bool) : (s.polled n a).drvEn = s.drvEn := rfl
@[simp] theorem polled_cause (s : State) (n : Nat) (a : Bool) : (s.polled n a).cause = s.cause := rfl
@[simp] theorem polled_settings (s : State) (n : Nat) (a : Bool) : (s.polled n a).settings = s.settings := rfl
@[simp] theorem polled_rxQ (s : State) (n : Nat) (a : Bool) : (s.polled n a).rxQ = s.rxQ := rfl

theorem callVerify_eq_polled (s : State) : s.callVerify = s.polled 0 s.nextVerify := by
  simp [State.callVerify, State.call, State.polled, State.nextVerify]

theorem polled_callVerify (s : State) (h : s.nextVerify = false) (n : Nat) (a : Bool) :
    s.callVerify.polled n a = s.polled (n + 1) a := by
  simp [State.callVerify, State.call, State.polled, h, List.replicate_succ, Nat.add_comm, Nat.add_left_comm]

/-- The loop ends on the first true answer. -/
theorem verifyLoop_of_true {k n : Nat} {s : State} (hn : n < k) (hf : ∀ j < n, s.verifyAnswer j = false)
    (ht : s.verifyAnswer n = true) : verifyLoop k s = (true, s.polled n true) := by
  induction k generalizing n s with
  | zero => omega
  | succ k ih =>
    cases n with
    | zero =>
      rw [verifyAnswer_zero] at ht
      simp [verifyLoop, ht, callVerify_eq_polled]
    | succ n =>
      have h0 : s.nextVerify = false := by rw [← verifyAnswer_zero]; exact hf 0 (by omega)
      have hk : k ≠ 0 := by omega
      simp only [verifyLoop, h0, hk, if_false, State.delay, Bool.false_eq_true]
      rw [ih (n := n) (by omega) (fun j hj => by rw [verifyAnswer_callVerify]; exact hf _ (by omega))
        (by rw [verifyAnswer_callVerify]; exact ht), polled_callVerify s h0]

/-- The loop gives up after its last attempt. -/
theorem verifyLoop_of_false {k : Nat} {s : State} (hf : ∀ j < k + 1, s.verifyAnswer j = false) :
    verifyLoop (k + 1) s = (false, s.polled k false) := by
  induction k generalizing s with
  | zero =>
    have h0 : s.nextVerify = false := by rw [← verifyAnswer_zero]; exact hf 0 (by omega)
    simp [verifyLoop, h0, callVerify_eq_polled]
  | succ k ih =>
    have h0 : s.nextVerify = false := by rw [← verifyAnswer_zero]; exact hf 0 (by omega)
    rw [verifyLoop]
    simp only [h0, State.delay, Bool.false_eq_true, if_false, Nat.succ_ne_zero]
    rw [ih fun j hj => by rw [verifyAnswer_callVerify]; exact hf _ (by omega), polled_callVerify s h0]

/-- All that the verify loop can do: `n` false answers and one last answer, which is its result (R180). -/
theorem verifyApplied_spec (s : State) :
    ∃ n a, n < Config.verifyAttempts ∧ verifyApplied s = (a, s.polled n a) ∧ (a = false → n = 9) := by
  by_cases h : ∃ n, n < 10 ∧ s.verifyAnswer n = true
  · have hex : ∃ n, n < 10 ∧ s.verifyAnswer n = true := h
    refine ⟨Nat.find hex, true, (Nat.find_spec hex).1, ?_, by simp⟩
    refine verifyLoop_of_true (k := 10) (Nat.find_spec hex).1 (fun j hj => ?_) (Nat.find_spec hex).2
    have := Nat.find_min hex hj
    have hlt := (Nat.find_spec hex).1
    simpa [show j < 10 by omega] using this
  · refine ⟨9, false, by decide, verifyLoop_of_false (k := 9) fun j hj => ?_, fun _ => rfl⟩
    by_contra hc
    exact h ⟨j, hj, by simpa using hc⟩

/-! ## What no command touches -/

/-- The codec, the phase, the receive queue, the frames sent and the codec's log are the loop's and the codec's alone: no
rule of a command writes them (R20, R64, R249). -/
structure State.SameLoop (s t : State) : Prop where
  rxState : t.rxState = s.rxState
  buf     : t.buf = s.buf
  phase   : t.phase = s.phase
  rxQ     : t.rxQ = s.rxQ
  frames  : t.frames = s.frames
  diag    : t.diag = s.diag

theorem polled_sameLoop (s : State) (n : Nat) (a : Bool) : s.SameLoop (s.polled n a) := by
  constructor <;> simp [State.polled, State.frames, State.diag]

theorem faultsRule_sameLoop {s s' : State} {r : Reply} (h : faultsRule s = .ok (s', r)) : s.SameLoop s' := by
  unfold faultsRule State.causeReply at h
  split at h
  · split at h <;> cases h
    constructor <;> rfl
  · cases h
    constructor <;> simp

theorem queryRule_sameLoop {sub : Byte} {s s' : State} {r : Reply} (h : queryRule sub s = .ok (s', r)) :
    s.SameLoop s' := by
  rcases queryRule_cases sub with e | e | e | e | e | e | e | e <;> rw [e] at h
  · cases h; constructor <;> rfl
  · cases h; constructor <;> rfl
  · cases h; constructor <;> rfl
  · exact faultsRule_sameLoop h
  · cases h; constructor <;> rfl
  · cases h; constructor <;> simp
  · cases h; constructor <;> rfl
  · cases h; constructor <;> rfl

end Sys2Proof.Machine
end

