-- ==== Sys2Proof/Laws/Rules.lean ====
section
/-! SUPPORT. What the rules of the commands write, field by field, over all instructions: one lemma for each of `drv_en`,
`settings`, `ctrl` with `cause`, and the calls, and one for all that they leave alone. -/

namespace Sys2Proof.Machine

/-- The state UPDATE_PARAMETERS verifies in: the record written and the setters called (R177, R179). -/
def afterSetters (m : SettingsImage) (s : State) : State :=
  applySettings (decodeSettings m) (s.setSettings (decodeSettings m))

@[simp] theorem afterSetters_rxState (m : SettingsImage) (s : State) : (afterSetters m s).rxState = s.rxState := rfl
@[simp] theorem afterSetters_buf (m : SettingsImage) (s : State) : (afterSetters m s).buf = s.buf := rfl
@[simp] theorem afterSetters_ctrl (m : SettingsImage) (s : State) : (afterSetters m s).ctrl = s.ctrl := rfl
@[simp] theorem afterSetters_phase (m : SettingsImage) (s : State) : (afterSetters m s).phase = s.phase := rfl
@[simp] theorem afterSetters_drvEn (m : SettingsImage) (s : State) : (afterSetters m s).drvEn = s.drvEn := rfl
@[simp] theorem afterSetters_cause (m : SettingsImage) (s : State) : (afterSetters m s).cause = s.cause := rfl
@[simp] theorem afterSetters_rxQ (m : SettingsImage) (s : State) : (afterSetters m s).rxQ = s.rxQ := rfl
@[simp] theorem afterSetters_settings (m : SettingsImage) (s : State) :
    (afterSetters m s).settings = decodeSettings m := rfl

/-- The decoder reads from a command's arguments an instruction that is a form of that command (R132, R200). -/
theorem commandOf_decodeArgs {cmd : Command} {args : List Byte} {i : Instr} (h : decodeArgs cmd args = some i) :
    commandOf i = cmd := by
  cases cmd <;> simp only [decodeArgs] at h
  case goto => split at h <;> cases h; rfl
  case updateParameters => split at h <;> cases h; rfl
  case query => split at h <;> cases h; unfold decodeQuery; split <;> rfl
  all_goals (split at h <;> cases h; rfl)

/-- All that UPDATE_PARAMETERS can do (R177). -/
theorem updateParametersRule_ok {m : SettingsImage} {s s' : State} {r : Reply}
    (h : updateParametersRule m s = .ok (s', r)) :
    (validate m = false ∧ s' = s ∧ r = .fault .invalidParameters) ∨
      (validate m = true ∧ ∃ n < 10,
        (s' = (afterSetters m s).polled n true ∧ r = .ack) ∨
          (s' = ((afterSetters m s).polled 9 false).enterFault .driverSync ∧ r = .fault .driverSync)) := by
  unfold updateParametersRule at h
  split at h
  · next hv =>
    obtain ⟨n, a, hn, hp, h9⟩ := verifyApplied_spec (afterSetters m s)
    have hp' : verifyApplied (applySettings (decodeSettings m) (s.setSettings (decodeSettings m))) =
      (a, (afterSetters m s).polled n a) := hp
    rw [hp'] at h
    cases a with
    | true => cases h; exact .inr ⟨hv, n, hn, .inl ⟨rfl, rfl⟩⟩
    | false =>
      obtain rfl := h9 rfl
      cases h; exact .inr ⟨hv, 9, by decide, .inr ⟨rfl, rfl⟩⟩
  · next hv => cases h; exact .inl ⟨by simpa using hv, rfl, rfl⟩

/-- All that RESET can do (R172). -/
theorem resetRule_ok {s s' : State} {r : Reply} (h : resetRule s = .ok (s', r)) :
    (s.nextClearFaults = true ∧ s' = clearSucceeded s.callClearFaults ∧ r = .ack) ∨
      (s.nextClearFaults = false ∧ s.ctrl = .faulted ∧ s' = s.callClearFaults ∧
        ∃ c, s.cause = some c ∧ r = .fault c.code) ∨
      (s.nextClearFaults = false ∧ s.ctrl ≠ .faulted ∧ s' = s.callClearFaults.enterFault .driver ∧
        r = .fault .driver) := by
  unfold resetRule State.causeReply at h
  split at h
  · next hf =>
    split at h
    · next hc => cases h; exact .inl ⟨hc, rfl, rfl⟩
    · next hc =>
      split at h
      · next c hk =>
        cases h
        exact .inr (.inl ⟨by simpa using hc, by simpa [State.isFaulted] using hf, rfl, c, hk, rfl⟩)
      · cases h
  · next hf =>
    cases hc : s.nextClearFaults with
    | true => simp only [hc] at h; cases h; exact .inl ⟨rfl, rfl, rfl⟩
    | false =>
      simp only [hc] at h; cases h
      exact .inr (.inr ⟨rfl, by simpa [State.isFaulted] using hf, rfl, rfl⟩)

theorem ruleOf_sameLoop {i : Instr} {s s' : State} {r : Reply} (h : ruleOf i s = .ok (s', r)) : s.SameLoop s' := by
  cases i
  case updateParameters m =>
    rcases updateParametersRule_ok h with ⟨_, rfl, _⟩ | ⟨_, n, _, ⟨rfl, _⟩ | ⟨rfl, _⟩⟩
    · constructor <;> rfl
    · have := polled_sameLoop (afterSetters m s) n true
      constructor
      · exact this.rxState
      · exact this.buf
      · exact this.phase
      · exact this.rxQ
      · rw [this.frames]; simp [afterSetters, applySettings, State.frames]
      · rw [this.diag]; simp [afterSetters, applySettings, State.diag]
    · have := polled_sameLoop (afterSetters m s) 9 false
      constructor
      · exact this.rxState
      · exact this.buf
      · exact this.phase
      · exact this.rxQ
      · rw [State.enterFault_frames, this.frames]; simp [afterSetters, applySettings, State.frames]
      · rw [State.enterFault_diag, this.diag]; simp [afterSetters, applySettings, State.diag]
  case reset =>
    rcases resetRule_ok h with ⟨_, rfl, _⟩ | ⟨_, _, rfl, _⟩ | ⟨_, _, rfl, _⟩
    · constructor <;> (unfold clearSucceeded; split <;> simp)
    · constructor <;> simp
    · constructor <;> simp
  case query sub => exact queryRule_sameLoop h
  case queryFaults => exact faultsRule_sameLoop h
  case disable =>
    cases h
    by_cases hm : s.inMotion <;> constructor <;> simp [hm, State.frames, State.diag]
  all_goals (cases h; constructor <;> simp [State.frames, State.diag])

theorem faultsRule_keeps {s s' : State} {r : Reply} (h : faultsRule s = .ok (s', r)) :
    s'.drvEn = s.drvEn ∧ s'.settings = s.settings ∧ s'.ctrl = s.ctrl ∧ s'.cause = s.cause := by
  unfold faultsRule State.causeReply at h
  split at h
  · split at h <;> cases h
    simp
  · cases h; simp

theorem queryRule_keeps {sub : Byte} {s s' : State} {r : Reply} (h : queryRule sub s = .ok (s', r)) :
    s'.drvEn = s.drvEn ∧ s'.settings = s.settings ∧ s'.ctrl = s.ctrl ∧ s'.cause = s.cause := by
  rcases queryRule_cases sub with e | e | e | e | e | e | e | e <;> rw [e] at h
  case inr.inr.inr.inl => exact faultsRule_keeps h
  all_goals (cases h; simp)

/-- Who writes `drv_en` (R25). -/
theorem ruleOf_drvEn {i : Instr} {s s' : State} {r : Reply} (h : ruleOf i s = .ok (s', r)) :
    s'.drvEn = s.drvEn ∨ (i = .enable ∧ s'.drvEn = true) ∨ (i = .disable ∧ s'.drvEn = false) := by
  cases i
  case updateParameters m =>
    rcases updateParametersRule_ok h with ⟨_, rfl, _⟩ | ⟨_, n, _, ⟨rfl, _⟩ | ⟨rfl, _⟩⟩ <;> simp
  case reset =>
    rcases resetRule_ok h with ⟨_, rfl, _⟩ | ⟨_, _, rfl, _⟩ | ⟨_, _, rfl, _⟩
    · left; unfold clearSucceeded; split <;> simp
    · simp
    · simp
  case query sub => exact .inl (queryRule_keeps h).1
  case queryFaults => exact .inl (faultsRule_keeps h).1
  all_goals (cases h; simp)

/-- Who writes `settings` (R181). -/
theorem ruleOf_settings {i : Instr} {s s' : State} {r : Reply} (h : ruleOf i s = .ok (s', r)) :
    s'.settings = s.settings ∨
      ∃ m, i = .updateParameters m ∧ validate m = true ∧ s'.settings = decodeSettings m := by
  cases i
  case updateParameters m =>
    rcases updateParametersRule_ok h with ⟨_, rfl, _⟩ | ⟨hv, n, _, ⟨rfl, _⟩ | ⟨rfl, _⟩⟩
    · exact .inl rfl
    · exact .inr ⟨m, rfl, hv, by simp⟩
    · exact .inr ⟨m, rfl, hv, by simp⟩
  case reset =>
    rcases resetRule_ok h with ⟨_, rfl, _⟩ | ⟨_, _, rfl, _⟩ | ⟨_, _, rfl, _⟩
    · left; unfold clearSucceeded; split <;> simp
    · simp
    · simp
  case query sub => exact .inl (queryRule_keeps h).2.1
  case queryFaults => exact .inl (faultsRule_keeps h).2.1
  case disable => cases h; left; by_cases hm : s.inMotion <;> simp [hm]
  all_goals (cases h; simp)

/-- The latch and the enable line agree with the controller state (R26, R27): what every rule keeps. -/
theorem ruleOf_keeps_latch {i : Instr} {s s' : State} {r : Reply} (he : s.EnableInv) (hl : s.LatchInv)
    (hg : gatePasses (commandOf i) s.ctrl = true) (h : ruleOf i s = .ok (s', r)) : s'.EnableInv ∧ s'.LatchInv := by
  obtain ⟨rx, buf, c, ph, de, ca, se, hi, q, o⟩ := s
  cases i
  case updateParameters m =>
    rcases updateParametersRule_ok h with ⟨_, rfl, _⟩ | ⟨hv, n, _, ⟨rfl, _⟩ | ⟨rfl, _⟩⟩
    · exact ⟨he, hl⟩
    · exact ⟨he, hl⟩
    · simp [State.EnableInv, State.LatchInv]
  case reset =>
    rcases resetRule_ok h with ⟨_, rfl, _⟩ | ⟨_, _, rfl, _⟩ | ⟨_, _, rfl, _⟩
    · unfold clearSucceeded
      split <;> cases de <;> simp [State.EnableInv, State.LatchInv]
    · simpa [State.EnableInv, State.LatchInv] using ⟨he, hl⟩
    · simp [State.EnableInv, State.LatchInv]
  case query sub =>
    obtain ⟨h1, _, h3, h4⟩ := queryRule_keeps h
    simpa [State.EnableInv, State.LatchInv, h1, h3, h4] using ⟨he, hl⟩
  case queryFaults =>
    obtain ⟨h1, _, h3, h4⟩ := faultsRule_keeps h
    simpa [State.EnableInv, State.LatchInv, h1, h3, h4] using ⟨he, hl⟩
  case disable =>
    cases h
    cases c <;>
      simp_all [State.EnableInv, State.LatchInv, gatePasses, commandOf, legalIn, refusedByAllowList, Config.faultAllow,
        State.inMotion]
  all_goals
    cases h
    cases c <;>
      simp_all [State.EnableInv, State.LatchInv, gatePasses, commandOf, legalIn, refusedByAllowList, Config.faultAllow]

/-- Who leaves Faulted (R173). -/
theorem ruleOf_leaves_faulted {i : Instr} {s s' : State} {r : Reply} (hf : s.ctrl = .faulted)
    (hg : gatePasses (commandOf i) s.ctrl = true) (h : ruleOf i s = .ok (s', r)) (hn : s'.ctrl ≠ .faulted) :
    i = .reset ∧ s.nextClearFaults = true ∧ s'.cause = none ∧ s'.ctrl = if s.drvEn then .idle else .disabled := by
  rw [hf] at hg
  cases i
  case reset =>
    rcases resetRule_ok h with ⟨hc, rfl, _⟩ | ⟨_, _, rfl, _⟩ | ⟨_, hn', _, _⟩
    · refine ⟨rfl, hc, ?_⟩
      unfold clearSucceeded
      split <;> exact ⟨rfl, rfl⟩
    · exact absurd hf (by simpa using hn)
    · exact absurd hf hn'
  case query sub => exact absurd ((queryRule_keeps h).2.2.1.trans hf) hn
  case queryFaults => exact absurd ((faultsRule_keeps h).2.2.1.trans hf) hn
  case echo => cases h; exact absurd hf hn
  case queryModel => cases h; exact absurd hf hn
  case querySerial => cases h; exact absurd hf hn
  case queryFirmware => cases h; exact absurd hf hn
  case queryParameters => cases h; exact absurd hf hn
  case queryPosition => cases h; exact absurd hf (by simpa using hn)
  case queryMode => cases h; exact absurd hf hn
  all_goals exact absurd hg (by simp [commandOf, gatePasses, refusedByAllowList, Config.faultAllow])

/-- Which calls a rule makes: only GOTO calls `move_to`, with its target, and only HOME calls `home` (R142). -/
theorem ruleOf_calls {i : Instr} {s s' : State} {r : Reply} (h : ruleOf i s = .ok (s', r)) :
    ∃ new, s'.calls = s.calls ++ new ∧
      ∀ c ∈ new, (∀ target, c = .moveTo target → i = .goto target) ∧ (c = .home → i = .home) := by
  have quiet : ∀ {t : State}, t.calls = s.calls → ∃ new, t.calls = s.calls ++ new ∧
      ∀ c ∈ new, (∀ target, c = Call.moveTo target → i = .goto target) ∧ (c = .home → i = .home) :=
    fun ht => ⟨[], by simp [ht], by simp⟩
  have faults : faultsRule s = .ok (s', r) → ∃ new, s'.calls = s.calls ++ new ∧
      ∀ c ∈ new, (∀ target, c = Call.moveTo target → i = .goto target) ∧ (c = .home → i = .home) := by
    intro hf
    unfold faultsRule State.causeReply at hf
    split at hf
    · split at hf <;> cases hf
      exact quiet rfl
    · cases hf
      exact ⟨[.readFault s.nextReadFault, .readDiag1 s.callReadFault.nextReadDiag1,
        .readDiag2 s.callReadFault.callReadDiag1.nextReadDiag2], by simp, by simp⟩
  cases i
  case updateParameters m =>
    have setters : (afterSetters m s).calls = s.calls ++ [.setCurrent (decodeSettings m).runCurrent,
        .setMicrostep (decodeSettings m).microstep, .setSpeedLimits m.topSpeed m.acceleration] := by
      simp [afterSetters, applySettings, State.calls, decodeSettings]
    have polls : ∀ (t : State) n a, (t.polled n a).calls = t.calls ++
        (List.replicate n (.verifySettingsCommitted false) ++ [.verifySettingsCommitted a]) := by
      intro t n a; simp [State.polled, State.calls]
    rcases updateParametersRule_ok h with ⟨_, rfl, _⟩ | ⟨hv, n, _, ⟨rfl, _⟩ | ⟨rfl, _⟩⟩
    · exact quiet rfl
    · rw [polls, setters, List.append_assoc]
      exact ⟨_, rfl, by simp +contextual [or_imp, forall_and]⟩
    · rw [State.enterFault_calls, polls, setters, List.append_assoc, List.append_assoc]
      exact ⟨_, rfl, by simp +contextual [or_imp, forall_and]⟩
  case reset =>
    rcases resetRule_ok h with ⟨_, rfl, _⟩ | ⟨_, _, rfl, _⟩ | ⟨_, _, rfl, _⟩
    · unfold clearSucceeded
      split
      · exact ⟨[.clearFaults s.nextClearFaults, .stop], by simp, by simp⟩
      · exact ⟨[.clearFaults s.nextClearFaults], by simp, by simp⟩
    · exact ⟨[.clearFaults s.nextClearFaults], by simp, by simp⟩
    · exact ⟨[.clearFaults s.nextClearFaults, .stop], by simp, by simp⟩
  case disable =>
    cases h
    by_cases hm : s.inMotion
    · exact ⟨[.stop, .disable], by simp [hm, State.calls], by simp⟩
    · exact ⟨[.disable], by simp [hm, State.calls], by simp⟩
  case query sub =>
    rcases queryRule_cases sub with e | e | e | e | e | e | e | e <;> simp only [ruleOf, e] at h
    case inr.inr.inr.inl => exact faults h
    case inr.inr.inr.inr.inr.inl => cases h; exact ⟨[.currentPosition s.nextCurrentPosition], by simp, by simp⟩
    all_goals (cases h; exact quiet rfl)
  case queryFaults => exact faults h
  case queryPosition => cases h; exact ⟨[.currentPosition s.nextCurrentPosition], by simp, by simp⟩
  case goto target => cases h; exact ⟨[.moveTo target], by simp [State.calls], by simp⟩
  case stop => cases h; exact ⟨[.stop], by simp [State.calls], by simp⟩
  case home => cases h; exact ⟨[.home], by simp [State.calls], by simp⟩
  case resetPosition => cases h; exact ⟨[.zeroPosition], by simp, by simp⟩
  case enable => cases h; exact ⟨[.enable], by simp [State.calls], by simp⟩
  all_goals (cases h; exact quiet rfl)

/-- The reply of a rule (R138): ACK with or without data, the FAULT of a latched cause, INVALID_PARAMETERS with nothing
done, or the ECHO of the arguments. -/
theorem ruleOf_reply {i : Instr} {s s' : State} {r : Reply} (h : ruleOf i s = .ok (s', r)) :
    r = .ack ∨ (∃ c : FaultCause, r = .fault c.code) ∨ (r = .fault .invalidParameters ∧ s' = s) ∨
      (∃ q b, r = .data q b) ∨ (∃ d, r = .echo d ∧ i = .echo d) := by
  have faults : faultsRule s = .ok (s', r) → r = .ack ∨ (∃ c : FaultCause, r = .fault c.code) ∨
      (r = .fault .invalidParameters ∧ s' = s) ∨ (∃ q b, r = .data q b) ∨ (∃ d, r = .echo d ∧ i = .echo d) := by
    intro hf
    unfold faultsRule State.causeReply at hf
    split at hf
    · split at hf <;> cases hf
      exact .inr (.inl ⟨_, rfl⟩)
    · cases hf; exact .inr (.inr (.inr (.inl ⟨_, _, rfl⟩)))
  cases i
  case updateParameters m =>
    rcases updateParametersRule_ok h with ⟨_, rfl, rfl⟩ | ⟨_, n, _, ⟨rfl, rfl⟩ | ⟨rfl, rfl⟩⟩
    · simp
    · simp
    · exact .inr (.inl ⟨.driverSync, rfl⟩)
  case reset =>
    rcases resetRule_ok h with ⟨_, rfl, rfl⟩ | ⟨_, _, rfl, c, _, rfl⟩ | ⟨_, _, rfl, rfl⟩
    · simp
    · exact .inr (.inl ⟨_, rfl⟩)
    · exact .inr (.inl ⟨.driver, rfl⟩)
  case query sub =>
    rcases queryRule_cases sub with e | e | e | e | e | e | e | e <;> simp only [ruleOf, e] at h
    case inr.inr.inr.inl => exact faults h
    case inr.inr.inr.inr.inr.inr.inr => cases h; simp
    all_goals (cases h; exact .inr (.inr (.inr (.inl ⟨_, _, rfl⟩))))
  case queryFaults => exact faults h
  case echo d => cases h; exact .inr (.inr (.inr (.inr ⟨d, rfl, rfl⟩)))
  case goto => cases h; simp
  case stop => cases h; simp
  case home => cases h; simp
  case resetPosition => cases h; simp
  case enable => cases h; simp
  case disable => cases h; simp
  all_goals (cases h; exact .inr (.inr (.inr (.inl ⟨_, _, rfl⟩))))

end Sys2Proof.Machine
end

