-- ==== Sys2Proof/Laws/Loop.lean ====
section
/-! SUPPORT. What a step can do, said once (46_control_loop.md): the forms of the Service phase, of handling a frame, and of
`step`, and what a whole Ingest phase does. -/

namespace Sys2Proof.Machine

/-- All that the Service phase can do (R236): nothing while Faulted; a fault; or a poll that finds none, and then at most the
completion check of the motion in progress. -/
theorem servicePhase_cases (s : State) :
    (s.ctrl = .faulted ∧ servicePhase s = s.setPhase .ingest) ∨
    (s.ctrl ≠ .faulted ∧ ∃ k, s.nextPollFault = some k ∧
      servicePhase s = (s.callPollFault.faultProactively (causeOf k)).setPhase .ingest) ∨
    ((s.ctrl = .idle ∨ s.ctrl = .disabled) ∧ s.nextPollFault = none ∧
      servicePhase s = s.callPollFault.setPhase .ingest) ∨
    (s.ctrl = .moving ∧ s.nextPollFault = none ∧
      servicePhase s = (motionCompletion s.callPollFault).setPhase .ingest) ∨
    (s.ctrl = .homing ∧ s.nextPollFault = none ∧
      servicePhase s = (homingCompletion s.callPollFault).setPhase .ingest) := by
  by_cases hf : s.ctrl = .faulted
  · left
    simp [servicePhase, faultPoll, completionChecks, State.isFaulted, hf]
  · cases hk : s.nextPollFault with
    | some k =>
      right; left
      refine ⟨hf, k, rfl, ?_⟩
      simp [servicePhase, faultPoll, completionChecks, State.isFaulted, hf, hk]
    | none =>
      have hp : faultPoll s = s.callPollFault := by simp [faultPoll, State.isFaulted, hf, hk]
      right; right
      unfold servicePhase
      rw [hp]
      cases hc : s.ctrl with
      | faulted => exact absurd hc hf
      | idle => simp [completionChecks, hc]
      | disabled => simp [completionChecks, hc]
      | homing => simp [completionChecks, hc]
      | moving =>
        have hm : (motionCompletion s.callPollFault).ctrl ≠ .homing := by
          unfold motionCompletion; split <;> simp [hc]
        simp [completionChecks, hc, hm]

/-- The end of a Dispatch phase answers a next state only from a next state. -/
theorem toService_next {o : Host.Outcome State Fault Refusal} {t : State} (h : toService o = .next t) :
    ∃ u, o = .next u ∧ t = u.setPhase .service := by
  cases o with
  | next u => cases h; exact ⟨u, rfl, rfl⟩
  | fault _ => cases h
  | refused _ => cases h

/-- All that handling a frame can answer a next state with (R133 to R138). -/
theorem handleFrame_next {f : Frame} {s t : State} (h : handleFrame f s = .next t) :
    (∃ e c, decode f = .error e ∧ (c = .nack ∨ c = .invalidParameters) ∧ t = s.emit (.fault c)) ∨
    (∃ i, decode f = .ok i ∧ gatePasses (commandOf i) s.ctrl = false ∧ t = s.emit (.fault .nack)) ∨
    (∃ i s' r, decode f = .ok i ∧ gatePasses (commandOf i) s.ctrl = true ∧ ruleOf i s = .ok (s', r) ∧
      t = s'.emit r) := by
  unfold handleFrame at h
  split at h
  · next i hi =>
    rw [exec_eq_runCommand] at h
    rcases runCommand_next h with ⟨hg, ht⟩ | ⟨hg, s', r, hr, ht⟩
    · exact .inr (.inl ⟨i, hi, hg, ht⟩)
    · exact .inr (.inr ⟨i, s', r, hi, hg, hr, ht⟩)
  · next e he =>
    cases e with
    | emptyBuffer => cases h
    | unknownCommand c => cases h; exact .inl ⟨_, .nack, he, .inl rfl, rfl⟩
    | malformedLength cmd =>
      simp only [rejectReply] at h
      cases h
      cases gatePasses cmd s.ctrl
      · exact .inl ⟨_, .nack, he, .inl rfl, rfl⟩
      · exact .inl ⟨_, .invalidParameters, he, .inr rfl, rfl⟩

/-- All that a step can answer a next state with (R235 to R238). -/
theorem step_next {s t : State} (h : step s = .next t) :
    (s.phase = .service ∧ t = servicePhase s) ∨
    (s.phase = .ingest ∧ s.rxQ = [] ∧ t = s.setPhase .dispatch) ∨
    (s.phase = .ingest ∧ ∃ b q, s.rxQ = b :: q ∧ feed b s.dropRead = .ok t) ∨
    (s.phase = .dispatch ∧ s.rxState ≠ .pending ∧ t = s.setPhase .service) ∨
    (s.phase = .dispatch ∧ s.rxState = .pending ∧ ∃ f u, s.buf = f.bytes ∧
      handleFrame f s.releaseFrame = .next u ∧ t = u.setPhase .service) := by
  unfold step at h
  split at h
  · next hp => cases h; exact .inl ⟨hp, rfl⟩
  · next hp =>
    unfold ingestStep at h
    split at h
    · next hq => cases h; exact .inr (.inl ⟨hp, hq, rfl⟩)
    · next b q hq =>
      split at h
      · next s' hs => cases h; exact .inr (.inr (.inl ⟨hp, b, q, hq, hs⟩))
      · cases h
  · next hp =>
    unfold dispatchPhase at h
    split at h
    · cases h
    · next s' hs =>
      rcases takeFrame_ok hs with ⟨hr, _, rfl⟩ | ⟨_, _, _, he, _⟩
      · cases h; exact .inr (.inr (.inr (.inl ⟨hp, hr, rfl⟩)))
      · cases he
    · next f s' hs =>
      rcases takeFrame_ok hs with ⟨_, he, _⟩ | ⟨hr, g, hb, he, rfl⟩
      · cases he
      · cases he
        obtain ⟨u, hu, ht⟩ := toService_next h
        exact .inr (.inr (.inr (.inr ⟨hp, hr, f, u, hb, hu, ht⟩)))

/-- The motion-completion check in its two forms (R155). -/
theorem motionCompletion_cases (s : State) :
    (s.nextDistanceToGo = 0 ∧ motionCompletion s = (s.callDistanceToGo.setCtrl .idle).emit .done) ∨
    (s.nextDistanceToGo ≠ 0 ∧ motionCompletion s = s.callDistanceToGo) := by
  by_cases h : s.nextDistanceToGo = 0
  · exact .inl ⟨h, if_pos h⟩
  · exact .inr ⟨h, if_neg h⟩

/-- The homing-completion check in its three forms (R156). -/
theorem homingCompletion_cases (s : State) :
    (s.nextHomeStatus = .running ∧ homingCompletion s = s.callHomeStatus) ∨
    (s.nextHomeStatus = .done ∧ homingCompletion s = (s.callHomeStatus.setCtrl .idle).emit .done) ∨
    (s.nextHomeStatus = .failed ∧ homingCompletion s = s.callHomeStatus.faultProactively .home) := by
  unfold homingCompletion; split <;> simp [*]

/-- What the Service phase leaves alone: the codec and its log, the receive queue, the settings and the enable line. -/
theorem servicePhase_keeps (s : State) :
    (servicePhase s).rxState = s.rxState ∧ (servicePhase s).buf = s.buf ∧ (servicePhase s).rxQ = s.rxQ ∧
      (servicePhase s).diag = s.diag ∧ (servicePhase s).phase = .ingest ∧ (servicePhase s).settings = s.settings ∧
      (servicePhase s).drvEn = s.drvEn := by
  rcases servicePhase_cases s with ⟨_, e⟩ | ⟨_, k, _, e⟩ | ⟨_, _, e⟩ | ⟨_, _, e⟩ | ⟨_, _, e⟩
  · rw [e]; simp
  · rw [e]; simp
  · rw [e]; simp
  · rcases motionCompletion_cases s.callPollFault with ⟨_, e'⟩ | ⟨_, e'⟩ <;> rw [e, e'] <;> simp
  · rcases homingCompletion_cases s.callPollFault with ⟨_, e'⟩ | ⟨_, e'⟩ | ⟨_, e'⟩ <;> rw [e, e'] <;> simp

/-- `feed` keeps the invariant of R22. -/
theorem feed_codecInv {b : Byte} {s t : State} (hi : s.CodecInv) (h : feed b s = .ok t) : t.CodecInv := by
  obtain ⟨h1, h2, h3, h4⟩ := hi
  rcases feed_ok h with rfl | rfl | ⟨r, rfl⟩ | ⟨hr, hb, rfl⟩ | ⟨hr, hl, hm, rfl⟩
  · exact ⟨h1, h2, h3, h4⟩
  · simp [State.CodecInv]
  · simp [State.CodecInv]
  · exact ⟨by simp, fun _ => by simpa using Nat.succ_le_of_lt (List.length_pos_of_ne_nil hb), by simpa using h3, by simpa using h4⟩
  · refine ⟨by simp [hr], by simp [hr], by simp; omega, ?_⟩
    intro x hx
    rw [State.appendByte_buf, List.mem_append, List.mem_singleton] at hx
    rcases hx with hx | rfl
    · exact h4 x hx
    · exact hm

/-- Where Faulted has a cause (R27), every rule answers: the only fault a rule has is the missing cause. -/
theorem ruleOf_total {s : State} (hl : s.LatchInv) (i : Instr) : ∃ s' r, ruleOf i s = .ok (s', r) := by
  have cause : s.isFaulted = true → ∃ r, s.causeReply = .ok r := by
    intro hf
    obtain ⟨c, hc⟩ := Option.ne_none_iff_exists'.1 (hl.2 (by simpa [State.isFaulted] using hf))
    exact ⟨_, by simp [State.causeReply, hc]; rfl⟩
  have faults : ∃ s' r, faultsRule s = .ok (s', r) := by
    unfold faultsRule
    split
    · next h =>
      obtain ⟨r, hr⟩ := cause h
      exact ⟨s, r, by simp [hr, Except.map]⟩
    · exact ⟨_, _, rfl⟩
  cases i
  case query sub =>
    rcases queryRule_cases sub with e | e | e | e | e | e | e | e <;> simp only [ruleOf, e]
    case inr.inr.inr.inl => exact faults
    all_goals exact ⟨_, _, rfl⟩
  case queryFaults => exact faults
  case reset =>
    simp only [ruleOf, resetRule]
    split
    · next h =>
      obtain ⟨r, hr⟩ := cause h
      split
      · exact ⟨_, _, rfl⟩
      · exact ⟨_, r, by simp [hr, Except.map]; rfl⟩
    · split <;> exact ⟨_, _, rfl⟩
  case updateParameters m =>
    simp only [ruleOf, updateParametersRule]
    split <;> exact ⟨_, _, rfl⟩
  all_goals exact ⟨_, _, rfl⟩

/-- The outcome of one step, continued by a run of `k` more. -/
theorem core_run_succ {s t : State} (k : Nat) (h : step s = .next t) :
    Host.Core.run Sys2Proof.core (k + 1) s = Host.Core.run Sys2Proof.core k t := by
  have hc : Sys2Proof.core.step s = .next t := h
  simp only [Host.Core.run, hc]

/-- `feed` and the receive queue do not touch each other. -/
theorem feed_withQueue {b : Byte} {s t : State} (q : List Byte) (h : feed b s = .ok t) :
    feed b { s with rxQ := q } = .ok { t with rxQ := q } := by
  revert h
  simp only [feed, feedReading, feedWaiting]
  repeat' split
  all_goals (intro h; cases h <;> rfl)

/-- The whole Ingest phase: one step for each queued byte and one for the empty queue feed the queue to the codec, and
leave the rest to the Dispatch phase (R237). -/
theorem run_ingest (k : Nat) {q : List Byte} {s t : State} (hp : s.phase = .ingest) (hq : s.rxQ = q)
    (h : feedAll q { s with rxQ := [] } = .ok t) :
    Host.Core.run Sys2Proof.core (k + (q.length + 1)) s = Host.Core.run Sys2Proof.core k (t.setPhase .dispatch) := by
  induction q generalizing s with
  | nil =>
    have hs : step s = .next (t.setPhase .dispatch) := by
      cases h; cases s; simp_all [step, ingestStep, State.setPhase]
    exact core_run_succ k hs
  | cons b q ih =>
    simp only [feedAll] at h
    split at h
    · next u hu =>
      have hu' := feed_withQueue q hu
      have hs : step s = .next { u with rxQ := q } := by
        simp only [step, hp, ingestStep, hq]
        simp only [State.dropRead, hq, List.tail_cons]
        simp only at hu'
        rw [hu']
      have hph : u.phase = .ingest ∧ u.rxQ = [] := by
        rcases feed_ok hu with rfl | rfl | ⟨r, rfl⟩ | ⟨_, _, rfl⟩ | ⟨_, _, _, rfl⟩ <;> simp [hp]
      rw [List.length_cons, ← Nat.add_assoc, core_run_succ _ hs]
      refine ih (s := { u with rxQ := q }) hph.1 rfl ?_
      have : ({ u with rxQ := [] } : State) = u := by cases u; simp_all
      simpa [this] using h
    · cases h
end Sys2Proof.Machine
end

