-- ==== Sys2Proof/Laws/PerInstr.lean ====
section
/-! SUPPORT. The statements made once per instruction. `EncodeFits`: the frame of a well-formed instruction fits the receive
buffer (R7 `P_CAP`, R22, R78). -/

namespace Sys2Proof.Laws.EncodeFits

/-- A well-formed instruction's frame has 1 to `P_CAP` bytes between its markers. -/
def Statement (i : Instr) : Prop :=
  WellFormed i = true → 1 ≤ (encode i).bytes.length ∧ (encode i).bytes.length ≤ Config.pCap

theorem goto (target : I32) : Statement (.goto target) := fun _ => by
  simp [encode, Frame.bytes, be32Bytes, Config.pCap]

theorem stop : Statement .stop := fun _ => by decide

theorem home : Statement .home := fun _ => by decide

theorem resetPosition : Statement .resetPosition := fun _ => by decide

theorem reset : Statement .reset := fun _ => by decide

theorem enable : Statement .enable := fun _ => by decide

theorem disable : Statement .disable := fun _ => by decide

theorem updateParameters (m : SettingsImage) : Statement (.updateParameters m) := fun _ => by
  simp [encode, Frame.bytes, encodeImage, be16Bytes, Config.pCap]

theorem query (sub : Byte) : Statement (.query sub) := fun _ => by
  simp [encode, Frame.bytes, Config.pCap]

theorem echo (data : List Byte) : Statement (.echo data) := fun h => by
  simp [WellFormed, echoFits] at h
  simp [encode, Frame.bytes, Config.pCap]
  omega

theorem queryModel : Statement .queryModel := fun _ => by decide

theorem querySerial : Statement .querySerial := fun _ => by decide

theorem queryFirmware : Statement .queryFirmware := fun _ => by decide

theorem queryFaults : Statement .queryFaults := fun _ => by decide

theorem queryParameters : Statement .queryParameters := fun _ => by decide

theorem queryPosition : Statement .queryPosition := fun _ => by decide

theorem queryMode : Statement .queryMode := fun _ => by decide

end Sys2Proof.Laws.EncodeFits
end

