-- ==== Sys2Proof/Tests/Slice0.lean ====
section
/-! SUPPORT. The model's own tests: ill-formed terms, words written out from 30_encoding.md, vectors of 95_test_vectors.md
(each test names its vector), and for every statement with hypotheses a witness that meets them. -/

namespace Sys2Proof.Tests

open Sys2Proof.Machine

/-! ## Small states -/

/-- The record of the example image `08 02 04 00 0A 01 F4 00 64 15` of R177. -/
def demoSettings : Settings :=
  { runCurrent := 8, sleepCurrent := 2, microstep := 4, sleepTimeout := 10, topSpeed := 500, acceleration := 100,
    lim1En := true, lim1Pol := false, lim2En := true, lim2Pol := false, homeEn := true, homePol := false }

/-- That image, as UPDATE_PARAMETERS carries it. -/
def demoImage : SettingsImage := ⟨8, 2, 4, 10, 500, 100, 0x15⟩

/-- A state with the invariants, in controller state `c`, before the Service phase; a fault is DRIVER. -/
def demo (c : Ctrl) : State :=
  { State.reset with
    ctrl := c, drvEn := c != .disabled, cause := if c = .faulted then some .driver else none, settings := demoSettings }

/-- One queued answer for each call, the poll's `k`. -/
def demoAnswers (k : Option PollFault) : Oracle :=
  { pollFault := [k], distanceToGo := [0], currentPosition := [100], homeStatus := [.done], clearFaults := [true],
    readFault := [0x00], readDiag1 := [0x12], readDiag2 := [0x34], verify := [true], draws := 0 }

/-- `demo c` with the poll answering `k` and the other calls as `demoAnswers`. -/
def demoAnswering (c : Ctrl) (k : Option PollFault) : State := { demo c with oracle := demoAnswers k }

/-- `s` about to dispatch the frame with these bytes between its markers. -/
def dispatching (s : State) (bytes : List Byte) : State := (s.holdFrame bytes).setPhase .dispatch

/-- GOTO 100 queued whole, about to be read. -/
def queued : State := { demo .idle with phase := .ingest, rxQ := wireBytes (.goto 100) }

/-- 33 bytes in the buffer and one more to read: a combination no rule covers. -/
def overfull : State :=
  { demo .idle with phase := .ingest, rxState := .reading, rxQ := [0x41], buf := List.replicate 33 0x41 }

/-- Faulted with no cause, and a clear that will fail: a combination no rule covers. -/
def causeless : State := { demo .faulted with cause := none, oracle := { Oracle.unset with clearFaults := [false] } }

/-- The next state of an outcome. -/
def next? : Host.Outcome State Fault Refusal → Option State
  | .next s    => some s
  | .fault _   => none
  | .refused _ => none

/-- The controller state and the events of one Dispatch of the frame with these bytes. -/
def vector (s : State) (bytes : List Byte) : Option (Ctrl × List Event) :=
  (next? (step (dispatching s bytes))).map fun t => (t.ctrl, t.history)

/-- The controller state and the events of one Service phase. -/
def service (s : State) : Option (Ctrl × List Event) := (next? (step s)).map fun t => (t.ctrl, t.history)

/-- The receiver state, the buffer and the codec's log after these bytes are fed. -/
def fed (s : State) (bytes : List Byte) : Option (RxState × List Byte × List CodecEvent) :=
  match feedAll bytes s with
  | .ok t    => some (t.rxState, t.buf, t.diag)
  | .error _ => none

/-- What the decoder answers for these bytes. -/
def decoded (bytes : List Byte) : Option Instr :=
  match decodeBytes bytes with
  | .ok i    => some i
  | .error _ => none

/-! ## Ill-formed terms -/

theorem test_illformed_echo_too_long : WellFormed (.echo (List.replicate 32 0x41)) = false := by decide
theorem test_illformed_echo_start_marker : WellFormed (.echo [0x41, 0x3C]) = false := by decide
theorem test_illformed_echo_end_marker : WellFormed (.echo [0x3E]) = false := by decide
theorem test_illformed_query_listed : WellFormed (.query 0x4D) = false := by decide
theorem test_illformed_query_marker : WellFormed (.query 0x3C) = false := by decide
theorem test_wellformed_at_the_bounds :
    WellFormed (.echo (List.replicate 31 0x41)) = true ∧ WellFormed (.echo []) = true ∧
      WellFormed (.query 0x5A) = true := by decide

/-! ## Words written out from the tables R76, R78, R87 and R91 -/

theorem test_decode_goto : decoded [0x47, 0x80, 0x00, 0x00, 0x01] = some (.goto 0x80000001) := by decide
theorem test_decode_stop : decoded [0x53] = some .stop := by decide
theorem test_decode_home : decoded [0x48] = some .home := by decide
theorem test_decode_resetPosition : decoded [0x5A] = some .resetPosition := by decide
theorem test_decode_reset : decoded [0x52] = some .reset := by decide
theorem test_decode_enable : decoded [0x4E] = some .enable := by decide
theorem test_decode_disable : decoded [0x44] = some .disable := by decide
theorem test_decode_updateParameters :
    decoded [0x50, 0x01, 0x02, 0x03, 0x04, 0x05, 0x06, 0x07, 0x08, 0x09, 0x2A] =
      some (.updateParameters ⟨0x01, 0x02, 0x03, 0x0405, 0x0607, 0x0809, 0x2A⟩) := by decide
theorem test_decode_query : decoded [0x51, 0x5A] = some (.query 0x5A) := by decide
theorem test_decode_echo : decoded [0x45, 0x68, 0x69] = some (.echo [0x68, 0x69]) := by decide
theorem test_decode_queryModel : decoded [0x51, 0x4D] = some .queryModel := by decide
theorem test_decode_querySerial : decoded [0x51, 0x53] = some .querySerial := by decide
theorem test_decode_queryFirmware : decoded [0x51, 0x56] = some .queryFirmware := by decide
theorem test_decode_queryFaults : decoded [0x51, 0x46] = some .queryFaults := by decide
theorem test_decode_queryParameters : decoded [0x51, 0x50] = some .queryParameters := by decide
theorem test_decode_queryPosition : decoded [0x51, 0x58] = some .queryPosition := by decide
theorem test_decode_queryMode : decoded [0x51, 0x4F] = some .queryMode := by decide

/-- R77, R78: an unknown code, a wrong count, and no bytes at all are refused, each by its name. -/
theorem test_decode_rejects :
    decodeBytes [0x57] = .error (.unknownCommand 0x57) ∧ decodeBytes [0x47, 0x00, 0x64] = .error (.malformedLength .goto) ∧
      decodeBytes [] = .error .emptyBuffer := ⟨rfl, rfl, rfl⟩

/-- R92: the switch flags, bit by bit, as the record holds them. -/
theorem test_decode_settings_flags :
    (decodeSettings { demoImage with flags := 0x26 }).lim1En = false ∧
      (decodeSettings { demoImage with flags := 0x26 }).lim1Pol = true ∧
      (decodeSettings { demoImage with flags := 0x26 }).lim2En = true ∧
      (decodeSettings { demoImage with flags := 0x26 }).lim2Pol = false ∧
      (decodeSettings { demoImage with flags := 0x26 }).homeEn = false ∧
      (decodeSettings { demoImage with flags := 0x26 }).homePol = true := by decide

/-- R177's example image decodes to R177's example record, field by field. -/
theorem test_decode_settings_example : decodeSettings demoImage = demoSettings := by decide

/-- The table's words, with operand bytes of zeros (log 11). -/
theorem test_table_words :
    decodeTableWord 8 0x47 = some (.goto 0) ∧ decodeTableWord 8 0x50 = some (.updateParameters ⟨0, 0, 0, 0, 0, 0, 0⟩) ∧
      decodeTableWord 8 0x51 = some (.query 0) ∧ decodeTableWord 8 0x45 = some (.echo []) ∧
      decodeTableWord 16 0x514D = some .queryModel ∧ decodeTableWord 8 0x57 = none := by decide

/-- A word placed for the next step is run by it (log 12). -/
theorem test_withFetchWord_runs :
    (next? (step (State.reset.withFetchWord 8 0x4E))).map (fun t => (t.ctrl, t.drvEn, t.history)) =
      some (.idle, true, [.call .enable, .sent [0x3C, 0x41, 0x3E]]) := by decide

/-! ## The Frame Codec -/

/-- L1-1: a second frame cannot overwrite a pending one. -/
theorem test_codec_L1_1 : fed (demo .idle) [0x3C, 0x53, 0x3E, 0x3C, 0x48, 0x3E] =
    some (.pending, [0x53], [.frameReady]) := by decide
/-- L1-2. -/
theorem test_codec_L1_2 : fed (demo .idle) [0x3C, 0x3E] = some (.waiting, [], [.error .emptyPayload]) := by decide
/-- L1-3: 32 bytes fit. -/
theorem test_codec_L1_3 : fed (demo .idle) ([0x3C, 0x45] ++ List.replicate 31 0x30 ++ [0x3E]) =
    some (.pending, 0x45 :: List.replicate 31 0x30, [.frameReady]) := by decide
/-- L1-4: 33 do not, and the end marker after them is noise. -/
theorem test_codec_L1_4 : fed (demo .idle) ([0x3C, 0x45] ++ List.replicate 32 0x30 ++ [0x3E]) =
    some (.waiting, [], [.error .overflow]) := by decide
/-- F-6. -/
theorem test_codec_F_6 : fed (demo .idle) [0x3C, 0x47, 0x3C, 0x3C, 0x51, 0x46, 0x3E] =
    some (.pending, [0x51, 0x46], [.error .doubleStart, .frameReady]) := by decide

/-! ## The gate -/

/-- G-6: check 2 wins over check 4. -/
theorem test_gate_G_6 : vector (demo .faulted) [0x47, 0x00] = some (.faulted, [.sent [0x3C, 0x46, 0x01, 0x3E]]) := by
  decide
/-- G-9: check 3 wins over check 4. -/
theorem test_gate_G_9 : vector (demo .moving) [0x50] = some (.moving, [.sent [0x3C, 0x46, 0x01, 0x3E]]) := by decide
/-- G-13. -/
theorem test_gate_G_13 : vector (demo .idle) [0x47, 0x00, 0x00, 0x00, 0x00, 0x64] =
    some (.idle, [.sent [0x3C, 0x46, 0x04, 0x3E]]) := by decide
/-- G-15. -/
theorem test_gate_G_15 : vector (demo .faulted) [0x52, 0x00] = some (.faulted, [.sent [0x3C, 0x46, 0x04, 0x3E]]) := by
  decide
/-- G-2. -/
theorem test_gate_G_2 : vector (demo .faulted) [0x57, 0x00] = some (.faulted, [.sent [0x3C, 0x46, 0x01, 0x3E]]) := by
  decide

/-! ## The commands -/

/-- M-2. -/
theorem test_goto_M_2 : vector (demo .idle) [0x47, 0xFF, 0xFF, 0xFF, 0xFF] =
    some (.moving, [.call (.moveTo (-1)), .sent [0x3C, 0x41, 0x3E]]) := by decide
/-- M-6. -/
theorem test_goto_M_6 : vector (demo .homing) [0x47, 0x00, 0x00, 0x00, 0x0A] =
    some (.moving, [.call (.moveTo 10), .sent [0x3C, 0x41, 0x3E]]) := by decide
/-- M-7. -/
theorem test_stop_M_7 : vector (demo .moving) [0x53] = some (.idle, [.call .stop, .sent [0x3C, 0x41, 0x3E]]) := by decide
/-- M-9. -/
theorem test_stop_M_9 : vector (demo .disabled) [0x53] = some (.disabled, [.call .stop, .sent [0x3C, 0x41, 0x3E]]) := by
  decide
/-- M-12. -/
theorem test_home_M_12 : vector (demo .moving) [0x48] = some (.homing, [.call .home, .sent [0x3C, 0x41, 0x3E]]) := by
  decide
/-- M-15. -/
theorem test_resetPosition_M_15 : vector (demo .disabled) [0x5A] =
    some (.disabled, [.call .zeroPosition, .sent [0x3C, 0x41, 0x3E]]) := by decide
/-- K-5. -/
theorem test_reset_K_5 : vector (demoAnswering .moving none) [0x52] =
    some (.idle, [.call (.clearFaults true), .call .stop, .sent [0x3C, 0x41, 0x3E]]) := by decide
/-- K-3, with the fault DRIVER: the latched cause is reported, not replaced. -/
theorem test_reset_K_3 :
    vector { demo .faulted with oracle := { Oracle.unset with clearFaults := [false] }, cause := some .limit1 } [0x52] =
      some (.faulted, [.call (.clearFaults false), .sent [0x3C, 0x46, 0x05, 0x3E]]) := by decide
/-- K-9: the motion goes on. -/
theorem test_enable_K_9 : vector (demo .moving) [0x4E] = some (.moving, [.call .enable, .sent [0x3C, 0x41, 0x3E]]) := by
  decide
/-- K-11. -/
theorem test_disable_K_11 : vector (demo .moving) [0x44] =
    some (.disabled, [.call .stop, .call .disable, .sent [0x3C, 0x41, 0x3E]]) := by decide
/-- K-13. -/
theorem test_updateParameters_K_13 :
    vector (demoAnswering .idle none) [0x50, 0x08, 0x02, 0x04, 0x00, 0x0A, 0x01, 0xF4, 0x00, 0x64, 0x15] =
      some (.idle, [.call (.setCurrent 8), .call (.setMicrostep 4), .call (.setSpeedLimits 500 100),
        .call (.verifySettingsCommitted true), .sent [0x3C, 0x41, 0x3E]]) := by decide
/-- K-15: ten failed polls, then the latch. -/
theorem test_updateParameters_K_15 :
    vector { demo .idle with oracle := { Oracle.unset with verify := List.replicate 10 false } }
        [0x50, 0x08, 0x02, 0x04, 0x00, 0x0A, 0x01, 0xF4, 0x00, 0x64, 0x15] =
      some (.faulted, [.call (.setCurrent 8), .call (.setMicrostep 4), .call (.setSpeedLimits 500 100)] ++
        List.replicate 10 (.call (.verifySettingsCommitted false)) ++
        [.call .stop, .sent [0x3C, 0x46, 0x03, 0x3E]]) := by decide
/-- Q-10. -/
theorem test_query_Q_10 : vector (demo .faulted) [0x51, 0x5A] = some (.faulted, [.sent [0x3C, 0x46, 0x04, 0x3E]]) := by
  decide
/-- E-2. -/
theorem test_echo_E_2 : vector (demo .faulted) [0x45, 0x68, 0x69] =
    some (.faulted, [.sent [0x3C, 0x45, 0x68, 0x69, 0x3E]]) := by decide
/-- Q-1, for every text that the OPEN parameter may be. -/
theorem test_queryModel_Q_1 : vector (demo .idle) [0x51, 0x4D] =
    some (.idle, [.sent ([0x3C, 0x41, 0x4D] ++ asciiBytes Config.modelText ++ [0x3E])]) := rfl
/-- Q-2, likewise. -/
theorem test_querySerial_Q_2 : vector (demo .faulted) [0x51, 0x53] =
    some (.faulted, [.sent ([0x3C, 0x41, 0x53] ++ asciiBytes Config.serialText ++ [0x3E])]) := rfl
/-- Q-3, likewise. -/
theorem test_queryFirmware_Q_3 : vector (demo .moving) [0x51, 0x56] =
    some (.moving, [.sent ([0x3C, 0x41, 0x56] ++ asciiBytes Config.firmwareText ++ [0x3E])]) := rfl
/-- Q-4. -/
theorem test_queryFaults_Q_4 : vector (demoAnswering .idle none) [0x51, 0x46] =
    some (.idle, [.call (.readFault 0x00), .call (.readDiag1 0x12), .call (.readDiag2 0x34),
      .sent [0x3C, 0x41, 0x46, 0x00, 0x12, 0x34, 0x3E]]) := by decide
/-- L1-9. -/
theorem test_queryFaults_L1_9 : vector (demo .faulted) [0x51, 0x46] =
    some (.faulted, [.sent [0x3C, 0x46, 0x02, 0x3E]]) := by decide
/-- Q-6. -/
theorem test_queryParameters_Q_6 : vector (demo .idle) [0x51, 0x50] =
    some (.idle, [.sent [0x3C, 0x41, 0x50, 0x08, 0x02, 0x04, 0x00, 0x0A, 0x01, 0xF4, 0x00, 0x64, 0x15, 0x3E]]) := by decide
/-- Q-8. -/
theorem test_queryPosition_Q_8 :
    vector { demo .faulted with oracle := { Oracle.unset with currentPosition := [-2] } } [0x51, 0x58] =
      some (.faulted, [.call (.currentPosition (-2)), .sent [0x3C, 0x41, 0x58, 0xFF, 0xFF, 0xFF, 0xFE, 0x3E]]) := by decide
/-- Q-9, its last column. -/
theorem test_queryMode_Q_9 : vector (demo .disabled) [0x51, 0x4F] =
    some (.disabled, [.sent [0x3C, 0x41, 0x4F, 0x04, 0x3E]]) := by decide

/-! ## The Service phase -/

/-- C-1. -/
theorem test_service_C_1 : service (demoAnswering .moving none) =
    some (.idle, [.call (.pollFault none), .call (.distanceToGo 0), .sent [0x3C, 0x44, 0x3E]]) := by decide
/-- C-6. -/
theorem test_service_C_6 :
    service { demo .homing with oracle := { Oracle.unset with pollFault := [none], homeStatus := [.failed] } } =
      some (.faulted, [.call (.pollFault none), .call (.homeStatus .failed), .call .stop,
        .sent [0x3C, 0x46, 0x07, 0x3E]]) := by decide
/-- R269: a fault and a completion seen together give FAULT, not DONE. -/
theorem test_service_fault_first : service (demoAnswering .moving (some .limit2)) =
    some (.faulted, [.call (.pollFault (some .limit2)), .call .stop, .sent [0x3C, 0x46, 0x06, 0x3E]]) := by decide

/-! ## Witnesses

For each statement with hypotheses, a state and operands that meet all of them, clause by clause. -/

theorem test_witness_EveryStepKeepsTheInvariants :
    (demoAnswering .moving none).Inv ∧ ∃ t, step (demoAnswering .moving none) = .next t := ⟨by decide, _, rfl⟩
theorem test_witness_EveryStepHasASuccessor : (dispatching (demo .faulted) [0x51, 0x46]).Inv := by decide
theorem test_witness_UncoveredCombinationsFaultByName :
    (causeless.ctrl = .faulted ∧ causeless.cause = none ∧ causeless.nextClearFaults = false) ∧
    ((dispatching (demo .idle) []).phase = .dispatch ∧ (dispatching (demo .idle) []).rxState = .pending ∧
      (dispatching (demo .idle) []).buf = []) ∧
    (overfull.phase = .ingest ∧ overfull.rxState = .reading ∧ overfull.rxQ = 0x41 :: [] ∧ (0x41 : Byte) ≠ 0x3C ∧
      (0x41 : Byte) ≠ 0x3E ∧ 32 < overfull.buf.length) := by decide
theorem test_witness_EveryScheduleKeepsTheInvariants : State.reset.Inv := by decide
theorem test_witness_HistoryIsAppendOnly :
    (∃ t, (demoAnswering .homing none).turn .core = .next t) ∧ ∃ t, (demo .idle).turn (.host 0x3C) = .next t :=
  ⟨⟨_, rfl⟩, _, rfl⟩
/-- The rows of R116 in order, each at the length its row ends at. -/
theorem test_witness_FeedFollowsTheTransitionTable :
    (demo .idle).rxState = .waiting ∧ (0x3E : Byte) ≠ 0x3C ∧
    ((demo .idle).startFrame.rxState = .reading ∧ (demo .idle).startFrame.buf.length = 0) ∧
    1 ≤ { (demo .idle).startFrame with buf := List.replicate 32 0x41 }.buf.length ∧
    ((0x3D : Byte) ≠ 0x3C ∧ (0x3D : Byte) ≠ 0x3E ∧
      { (demo .idle).startFrame with buf := List.replicate 31 0x41 }.buf.length < 32) ∧
    { (demo .idle).startFrame with buf := List.replicate 32 0x41 }.buf.length = 32 ∧
    ((demo .idle).holdFrame [0x53]).rxState = .pending := by decide
theorem test_witness_TakeFrameHandsOverThePendingFrame :
    ((demo .idle).holdFrame [0x51, 0x46]).rxState = .pending ∧ ((demo .idle).holdFrame [0x51, 0x46]).buf = 0x51 :: [0x46] ∧
    (demo .idle).startFrame.rxState ≠ .pending ∧ ((demo .idle).holdFrame (0x45 :: List.replicate 31 0x41)).Inv ∧
    ∃ t, takeFrame ((demo .idle).holdFrame (0x45 :: List.replicate 31 0x41)) =
      .ok (some ⟨0x45, List.replicate 31 0x41⟩, t) :=
  ⟨by decide, by decide, by decide, by decide, _, rfl⟩
theorem test_witness_EncodedFrameRoundTripsThroughTheCodec :
    (demo .idle).rxState = .waiting ∧ isMarker 0x45 = false ∧ (List.replicate 31 (0x3D : Byte)).length ≤ 31 ∧
      ∀ b ∈ List.replicate 31 (0x3D : Byte), isMarker b = false := by decide
theorem test_witness_ResynchronisationNeedsAFreshStart :
    (∀ b ∈ List.replicate 32 (0x3D : Byte), isMarker b = false) ∧ 1 ≤ (List.replicate 32 (0x3D : Byte)).length ∧
      (List.replicate 32 (0x3D : Byte)).length ≤ 32 ∧ (demo .idle).rxState = .waiting ∧
      (demo .idle).startFrame.rxState = .reading := by decide
theorem test_witness_MarkerInArgumentsBreaksTheFrame :
    (demo .idle).rxState = .waiting ∧ isMarker 0x47 = false ∧
      (∀ b ∈ List.replicate 31 (0x00 : Byte), isMarker b = false) ∧ (List.replicate 31 (0x00 : Byte)).length ≤ 31 ∧
      ∀ b ∈ ([0x00, 0x64] : List Byte), isMarker b = false := by decide
theorem test_witness_DecodeOfEncodeIsTheInstruction :
    WellFormed (.goto 0x80000000) = true ∧ WellFormed (.echo (List.replicate 31 0x41)) = true ∧
      WellFormed (.query 0xFF) = true := by decide
theorem test_witness_EncodeOfDecodeIsTheFrame : decode ⟨0x47, [0x80, 0, 0, 1]⟩ = .ok (.goto 0x80000001) := rfl
theorem test_witness_SettingsImageRoundTrips :
    validate ⟨0x0F, 0x0F, 0x0F, 0xFFFF, 0xFFFF, 0xFFFF, 0x3F⟩ = true := by decide
theorem test_witness_UnknownCommandIsNacked : (⟨0x57, []⟩ : Frame).code ∉ commandCodes := by decide
theorem test_witness_MatrixRefusalIsNacked :
    (⟨0x47, []⟩ : Frame).code ∈ commandCodes ∧ matrixRuns 0x47 (demo .disabled).ctrl = false := by decide
theorem test_witness_WrongLengthIsInvalidParameters :
    (wrongLength ⟨0x47, [0, 0, 0]⟩ ∧ matrixRuns 0x47 (demo .moving).ctrl = true) ∧
      (wrongLength ⟨0x52, [0]⟩ ∧ matrixRuns 0x52 (demo .faulted).ctrl = true) ∧
      (wrongLength ⟨0x50, List.replicate 11 0⟩ ∧ matrixRuns 0x50 (demo .disabled).ctrl = true) ∧
      (wrongLength ⟨0x51, []⟩ ∧ matrixRuns 0x51 (demo .homing).ctrl = true) ∧
      (wrongLength ⟨0x45, List.replicate 32 0x41⟩ ∧ matrixRuns 0x45 (demo .idle).ctrl = true) := by
  refine ⟨⟨?_, ?_⟩, ⟨?_, ?_⟩, ⟨?_, ?_⟩, ⟨?_, ?_⟩, ?_, ?_⟩ <;> decide
theorem test_witness_RefusedInstructionsReplyNackOnly :
    (demo .faulted).ctrl = .faulted ∧ ((demo .disabled).ctrl = .faulted ∨ (demo .disabled).ctrl = .disabled) ∧
      ((demo .homing).ctrl = .moving ∨ (demo .homing).ctrl = .homing ∨ (demo .homing).ctrl = .faulted) := by decide
theorem test_witness_RejectedFrameHasNoSideEffect :
    (∃ t, handleFrame ⟨0x47, [0, 0, 0, 0x64]⟩ (demo .faulted) = .next t ∧
      t.history.getLast? = some (.sent nackFrame)) ∧
    ∃ t, handleFrame ⟨0x50, [0x10, 2, 4, 0, 0x0A, 1, 0xF4, 0, 0x64, 0x15]⟩ (demo .idle) = .next t ∧
      t.history.getLast? = some (.sent invalidFrame) := ⟨⟨_, rfl, rfl⟩, _, rfl, rfl⟩
theorem test_witness_EveryHandledFrameGetsOneReply : ∃ t, handleFrame ⟨0x45, [0x68]⟩ (demo .faulted) = .next t :=
  ⟨_, rfl⟩
theorem test_witness_EmittedPayloadsFit :
    ∃ t, step (demoAnswering .moving none) = .next t ∧ t.frames = (demoAnswering .moving none).frames ++ [doneFrame] :=
  ⟨_, rfl, rfl⟩
theorem test_witness_OnlyThreeQueriesCanReplyAMarker :
    (∀ b ∈ (⟨0x51, [0x4F]⟩ : Frame).args, isMarker b = false) ∧ decode ⟨0x51, [0x4F]⟩ = .ok .queryMode ∧
      ∃ t, handleFrame ⟨0x51, [0x4F]⟩ (demo .idle) = .next t ∧
        t.frames = (demo .idle).frames ++ [[0x3C, 0x41, 0x4F, 0x00, 0x3E]] := ⟨by decide, rfl, _, rfl, rfl⟩
theorem test_witness_GotoForwardsTheTarget :
    (demo .homing).ctrl = .idle ∨ (demo .homing).ctrl = .moving ∨ (demo .homing).ctrl = .homing := by decide
theorem test_witness_StopEndsTheMotionIntent :
    ((demo .moving).ctrl = .idle ∨ (demo .moving).ctrl = .moving ∨ (demo .moving).ctrl = .homing) ∧
      (demo .disabled).ctrl = .disabled := by decide
theorem test_witness_HomeStartsHoming :
    (demo .idle).ctrl = .idle ∨ (demo .idle).ctrl = .moving ∨ (demo .idle).ctrl = .homing := by decide
theorem test_witness_ResetPositionOnlyZeroesTheReference :
    (demo .disabled).ctrl = .idle ∨ (demo .disabled).ctrl = .disabled := by decide
theorem test_witness_SuccessfulResetClearsTheLatch :
    (demoAnswering .faulted none).nextClearFaults = true ∧ (demoAnswering .moving none).nextClearFaults = true := by decide
theorem test_witness_FailedResetReportsOrLatches :
    { demo .faulted with oracle := { Oracle.unset with clearFaults := [false] } }.nextClearFaults = false ∧
      (demo .faulted).ctrl = .faulted ∧ (demo .faulted).cause = some .driver ∧
      { demo .idle with oracle := { Oracle.unset with clearFaults := [false] } }.nextClearFaults = false ∧
      (demo .idle).ctrl ≠ .faulted := by decide
theorem test_witness_EnableDrivesTheLineOn :
    ((demo .disabled).ctrl = .idle ∨ (demo .disabled).ctrl = .disabled) ∧
      ((demo .moving).ctrl = .moving ∨ (demo .moving).ctrl = .homing) := by decide
theorem test_witness_DisableDrivesTheLineOff :
    ((demo .idle).ctrl = .idle ∨ (demo .idle).ctrl = .disabled) ∧
      ((demo .homing).ctrl = .moving ∨ (demo .homing).ctrl = .homing) := by decide
/-- The last attempt, K-14, and the first, K-13. -/
theorem test_witness_UpdateWritesAppliesAndVerifies :
    ((demo .disabled).ctrl = .idle ∨ (demo .disabled).ctrl = .disabled) ∧ validate demoImage = true ∧
      (∀ k < 9, { demo .disabled with
        oracle := { Oracle.unset with verify := List.replicate 9 false ++ [true] } }.verifyAnswer k = false) ∧
      { demo .disabled with
        oracle := { Oracle.unset with verify := List.replicate 9 false ++ [true] } }.verifyAnswer 9 = true ∧
      (demoAnswering .idle none).verifyAnswer 0 = true := by decide
theorem test_witness_UpdateVerifyTimeoutLatchesDriverSync :
    ((demo .idle).ctrl = .idle ∨ (demo .idle).ctrl = .disabled) ∧ validate demoImage = true ∧
      ∀ k < 10, { demo .idle with
        oracle := { Oracle.unset with verify := List.replicate 10 false } }.verifyAnswer k = false := by decide
/-- L1-8 and K-17 to K-20, at the least illegal values. -/
theorem test_witness_IllegalImageIsRefusedWhole :
    ((demo .idle).ctrl = .idle ∨ (demo .idle).ctrl = .disabled) ∧ 0x0F < { demoImage with runCurrent := 0x10 }.runCurrent ∧
      0x0F < { demoImage with sleepCurrent := 0x10 }.sleepCurrent ∧ 0x0F < { demoImage with microstep := 0x11 }.microstep ∧
      { demoImage with flags := 0x40 }.flags.getLsbD 6 = true ∧
      { demoImage with flags := 0x80 }.flags.getLsbD 7 = true := by decide
theorem test_witness_FaultsQueryRepliesCauseOrRegisters :
    (demo .faulted).ctrl = .faulted ∧ (demo .faulted).cause = some .driver ∧ (demoAnswering .idle none).ctrl ≠ .faulted ∧
      (demoAnswering .idle none).nextReadFault = 0x00 ∧ (demoAnswering .idle none).callReadFault.nextReadDiag1 = 0x12 ∧
      (demoAnswering .idle none).callReadFault.callReadDiag1.nextReadDiag2 = 0x34 := by decide
theorem test_witness_PositionQueryRepliesAFreshPosition :
    (demoAnswering .idle none).nextCurrentPosition = (0 : Byte) ++ (0 : Byte) ++ (0 : Byte) ++ (100 : Byte) := by decide
theorem test_witness_ModeQueryRepliesTheStateCode :
    (demo .idle).ctrl = .idle ∧ (demo .moving).ctrl = .moving ∧ (demo .homing).ctrl = .homing ∧
      (demo .faulted).ctrl = .faulted ∧ (demo .disabled).ctrl = .disabled := by decide
theorem test_witness_QuerySelectsBySubCode :
    (0x00 : Byte) ∉ ([0x4D, 0x53, 0x56, 0x46, 0x50, 0x58, 0x4F] : List Byte) := by decide
theorem test_witness_QueryAndEchoAreReadOnly :
    ((encode .queryFaults).code = 0x51 ∧ ∃ t, exec .queryFaults (demoAnswering .idle none) = .next t) ∧
      (encode (.echo [])).code = 0x45 ∧ ∃ t, exec (.echo []) (demo .faulted) = .next t :=
  ⟨⟨rfl, _, rfl⟩, rfl, _, rfl⟩
theorem test_witness_AcceptedImageIsReadBack :
    ∃ t, exec (.updateParameters demoImage) (demoAnswering .disabled none) = .next t ∧
      t.history.getLast? = some (.sent ackFrame) := ⟨_, rfl, rfl⟩
theorem test_witness_PhasesCycle :
    (∃ t, step (demoAnswering .idle none) = .next t) ∧
      (∃ t, step { demo .idle with phase := .ingest, rxQ := [0x3C] } = .next t) ∧
      (∃ t, step { demo .idle with phase := .ingest } = .next t) ∧ ∃ t, step { demo .idle with phase := .dispatch } = .next t :=
  ⟨⟨_, rfl⟩, ⟨_, rfl⟩, ⟨_, rfl⟩, _, rfl⟩
theorem test_witness_PolledFaultLatchesAndReports :
    (demoAnswering .disabled (some .limit1)).phase = .service ∧ (demoAnswering .disabled (some .limit1)).ctrl ≠ .faulted ∧
      (demoAnswering .disabled (some .limit1)).nextPollFault = some .limit1 := by decide
theorem test_witness_MotionCompletionAtZeroDistance :
    (demoAnswering .moving none).phase = .service ∧ (demoAnswering .moving none).ctrl = .moving ∧
      (demoAnswering .moving none).nextPollFault = none ∧
      (demoAnswering .moving none).callPollFault.nextDistanceToGo = 0 ∧
      { demo .moving with
        oracle := { Oracle.unset with pollFault := [none], distanceToGo := [-1] } }.callPollFault.nextDistanceToGo ≠ 0 := by
  decide
theorem test_witness_HomingCompletionByStatus :
    (demoAnswering .homing none).phase = .service ∧ (demoAnswering .homing none).ctrl = .homing ∧
      (demoAnswering .homing none).nextPollFault = none ∧
      ∀ h : List HomeStatus, h ∈ ([[.running], [.done], [.failed]] : List (List HomeStatus)) →
        some { demo .homing with
          oracle := { Oracle.unset with pollFault := [none], homeStatus := h } }.callPollFault.nextHomeStatus = h.head? := by
  decide
theorem test_witness_QuietServicePhases :
    (demo .faulted).phase = .service ∧ (demo .faulted).ctrl = .faulted ∧
      ((demoAnswering .disabled none).ctrl = .idle ∨ (demoAnswering .disabled none).ctrl = .disabled) ∧
      (demoAnswering .disabled none).nextPollFault = none := by decide
theorem test_witness_PendingFrameSurvivesTheIngestPhase :
    (((demo .idle).holdFrame [0x53]).setPhase .ingest).phase = .ingest ∧
      (((demo .idle).holdFrame [0x53]).setPhase .ingest).rxState = .pending := by decide
theorem test_witness_IterationReachesAQuiescentPoint :
    { demo .moving with rxQ := [0x3C, 0x53, 0x3E, 0x3C] }.Inv ∧
      { demo .moving with rxQ := [0x3C, 0x53, 0x3E, 0x3C] }.phase = .service := by decide
theorem test_witness_StepRunsTheDecodedFrame :
    ((dispatching (demo .idle) [0x53]).phase = .dispatch ∧ (dispatching (demo .idle) [0x53]).rxState = .pending ∧
      (dispatching (demo .idle) [0x53]).buf = (⟨0x53, []⟩ : Frame).code :: (⟨0x53, []⟩ : Frame).args ∧
      decode ⟨0x53, []⟩ = .ok .stop ∧
      ∃ t, exec .stop { dispatching (demo .idle) [0x53] with rxState := .waiting, buf := [] } = .next t) ∧
    (decode ⟨0x51, [0x46]⟩ = .ok .queryFaults ∧
      exec .queryFaults { dispatching causeless [0x51, 0x46] with rxState := .waiting, buf := [] } =
        .fault .latchWithoutCause) := ⟨⟨rfl, rfl, rfl, rfl, _, rfl⟩, rfl, rfl⟩
theorem test_witness_QueuedCommandIsReceivedAndRun :
    WellFormed (.goto 100) = true ∧ deliverable (.goto 100) = true ∧ queued.phase = .ingest ∧ queued.rxState = .waiting ∧
      queued.buf = [] ∧ queued.rxQ = wireBytes (.goto 100) ∧
      ∃ t, exec (.goto 100) { queued with
        phase := .dispatch, rxQ := [], history := queued.history ++ [.codec .frameReady] } = .next t :=
  ⟨by decide, by decide, rfl, rfl, rfl, rfl, _, rfl⟩
theorem test_witness_PartialFrameSurvivesServiceAndDispatch :
    (∃ t, step { demoAnswering .moving (some .home) with rxState := .reading, buf := [0x47] } = .next t) ∧
      ∃ t, step { demo .idle with phase := .dispatch, rxState := .reading, buf := [0x47] } = .next t :=
  ⟨⟨_, rfl⟩, _, rfl⟩
theorem test_witness_OnlyASuccessfulResetLeavesFaulted :
    ∃ t, step (dispatching (demoAnswering .faulted none) [0x52]) = .next t ∧ t.ctrl ≠ .faulted := ⟨_, rfl, by decide⟩
theorem test_witness_MotionIsCommandedOnlyWhenLegal :
    (∃ t, step (dispatching (demo .idle) [0x47, 0, 0, 0, 0x64]) = .next t ∧ t.calls = [] ++ [.moveTo 100]) ∧
      ∃ t, step (dispatching (demo .moving) [0x48]) = .next t ∧ t.calls = [] ++ [.home] :=
  ⟨⟨_, rfl, rfl⟩, _, rfl, rfl⟩
theorem test_witness_DoneOnlyAtCompletion :
    ∃ t, step (demoAnswering .homing none) = .next t ∧ t.frames = [] ++ [doneFrame] := ⟨_, rfl, rfl⟩
theorem test_witness_SettingsChangeOnlyByAnAcceptedUpdate :
    ∃ t, step (dispatching (demoAnswering .idle none) [0x50, 0, 0, 0, 0, 0, 0, 0, 0, 0, 0]) = .next t ∧
      t.settings ≠ demoSettings := ⟨_, rfl, by decide⟩
theorem test_witness_EnableLineChangesOnlyByItsCommands :
    (∃ t, step (dispatching (demo .disabled) [0x4E]) = .next t ∧ t.drvEn ≠ false) ∧
      ∃ t, step (dispatching (demo .idle) [0x44]) = .next t ∧ t.drvEn ≠ true := ⟨⟨_, rfl, by decide⟩, _, rfl, by decide⟩

end Sys2Proof.Tests
end

section
/-! PROOFS. The Frame Codec (40_frame_codec.md): one equation for each row of R116, what a taken frame is, and the round
trip of an encoded frame. -/

namespace Sys2Proof.Machine

/-! ### The rows of `feed` (R116) -/

/-- R101: a start marker in Waiting. -/
theorem feed_start_of_waiting {s : State} (h : s.rxState = .waiting) : feed Config.pStart s = .ok s.startFrame := by
  simp only [feed, h, feedWaiting, classOf_start]

/-- R102: an end marker or a DATA byte in Waiting. -/
theorem feed_noise_of_waiting {s : State} {b : Byte} (h : s.rxState = .waiting) (hb : b ≠ Config.pStart) :
    feed b s = .ok s := by
  rcases byte_cases b with rfl | rfl | hd
  · exact absurd rfl hb
  · simp only [feed, h, feedWaiting, classOf_end]
  · simp only [feed, h, feedWaiting, classOf_data hd]

/-- R103: a start marker in Reading. -/
theorem feed_start_of_reading {s : State} (h : s.rxState = .reading) :
    feed Config.pStart s = .ok (s.discardFrame .doubleStart) := by
  simp only [feed, h, feedReading, classOf_start]

/-- R104, R105: an end marker in Reading; only an empty buffer is an error. -/
theorem feed_end_of_reading {s : State} (h : s.rxState = .reading) :
    feed Config.pEnd s = .ok (if s.buf.length = 0 then s.discardFrame .emptyPayload else s.completeFrame) := by
  simp only [feed, h, feedReading, classOf_end]
  split <;> rfl

/-- R106: a DATA byte in Reading that still fits. -/
theorem feed_data_of_reading {s : State} {b : Byte} (h : s.rxState = .reading) (hb : isMarker b = false)
    (hl : s.buf.length < Config.pCap) : feed b s = .ok (s.appendByte b) := by
  simp only [feed, h, feedReading, classOf_data hb, if_pos hl]

/-- R108: a DATA byte in Reading when the buffer is full. -/
theorem feed_overflow_of_reading {s : State} {b : Byte} (h : s.rxState = .reading) (hb : isMarker b = false)
    (hl : s.buf.length = Config.pCap) : feed b s = .ok (s.discardFrame .overflow) := by
  simp only [feed, h, feedReading, classOf_data hb, hl, Nat.lt_irrefl, if_true, if_false]

/-- R107: any byte in Pending. -/
theorem feed_of_pending {s : State} {b : Byte} (h : s.rxState = .pending) : feed b s = .ok s := by
  simp only [feed, h]

/-- Settles O8: each row of the table is the equation of `feed` for its receiver state and byte class. -/
theorem feedFollowsTheTransitionTable : Obligations.FeedFollowsTheTransitionTable := by
  intro b s
  refine ⟨?waitingStart, fun h hb => feed_noise_of_waiting h hb, ?doubleStart, ?emptyPayload, ?frameReady, ?append,
    ?overflow, feed_of_pending⟩
  case waitingStart => rintro h rfl; exact feed_start_of_waiting h
  case doubleStart => rintro h rfl; exact feed_start_of_reading h
  case emptyPayload => rintro h rfl hl; exact (feed_end_of_reading h).trans (by rw [if_pos hl]; rfl)
  case frameReady => rintro h rfl hl; exact (feed_end_of_reading h).trans (by rw [if_neg (by omega)]; rfl)
  case append => intro h hs he hl; exact feed_data_of_reading h ((isMarker_eq_false_iff b).2 ⟨hs, he⟩) hl
  case overflow => intro h hs he hl; exact feed_overflow_of_reading h ((isMarker_eq_false_iff b).2 ⟨hs, he⟩) hl

/-! ### `take_frame` (R109, R112) -/

/-- R109: outside Pending there is no frame to take. -/
theorem takeFrame_of_not_pending {s : State} (h : s.rxState ≠ .pending) : takeFrame s = .ok (none, s) := by
  unfold takeFrame
  cases hr : s.rxState with
  | pending => exact absurd hr h
  | reading => rfl
  | waiting => rfl

/-- R109: a frame that was taken is the buffer, code byte first. -/
theorem buf_of_takeFrame_some {s t : State} {f : Frame} (h : takeFrame s = .ok (some f, t)) : s.buf = f.bytes := by
  rcases takeFrame_ok h with ⟨_, hnone, _⟩ | ⟨_, g, hb, hsome, _⟩
  · cases hnone
  · cases hsome; exact hb

/-- Settles O9: the bounds on a taken frame are the buffer's bounds in R22, the code byte taking one place of the 32. -/
theorem takeFrameHandsOverThePendingFrame : Obligations.TakeFrameHandsOverThePendingFrame := by
  intro s
  refine ⟨fun c args hr hb => takeFrame_of_pending ⟨c, args⟩ hr hb, takeFrame_of_not_pending, ?_⟩
  intro f t ⟨⟨_, _, hcap, hmark⟩, _, _⟩ h
  have hb : s.buf = f.code :: f.args := buf_of_takeFrame_some h
  rw [hb] at hcap hmark
  exact ⟨hb, Nat.le_of_succ_le_succ hcap, fun b hbmem => (isMarker_eq_false_iff b).1 (hmark b hbmem)⟩

/-! ### A whole frame through the codec (R117) -/

/-- Feeding a sequence is feeding its first byte, then the rest. -/
theorem feedAll_cons {b : Byte} {s t : State} (h : feed b s = .ok t) (bs : List Byte) :
    feedAll (b :: bs) s = feedAll bs t := by
  simp only [feedAll, h]

/-- R101, R105, R106: from Waiting, 1 to 32 DATA bytes between markers end as the pending frame, FrameReady logged. -/
theorem feedAll_frame_of_waiting {s : State} {d : List Byte} (h : s.rxState = .waiting)
    (hd : ∀ b ∈ d, isMarker b = false) (hpos : d ≠ []) (hcap : d.length ≤ Config.pCap) :
    feedAll (Config.pStart :: d ++ [Config.pEnd]) s = .ok ((s.holdFrame d).logCodec (some .frameReady)) := by
  have hdata : feedAll d s.startFrame = .ok { s.startFrame with buf := d } :=
    feedAll_reading rfl hd (by simpa using hcap)
  have hend : feed Config.pEnd { s.startFrame with buf := d } = .ok ((s.holdFrame d).logCodec (some .frameReady)) :=
    (feed_end_of_reading rfl).trans (by rw [if_neg (by simpa using hpos)]; rfl)
  calc feedAll (Config.pStart :: (d ++ [Config.pEnd])) s
      = feedAll (d ++ [Config.pEnd]) s.startFrame := feedAll_cons (feed_start_of_waiting h) _
    _ = feedAll [Config.pEnd] { s.startFrame with buf := d } := feedAll_append hdata
    _ = .ok ((s.holdFrame d).logCodec (some .frameReady)) := feedAll_cons hend []

/-- In Waiting, releasing the frame only empties the buffer. -/
theorem State.releaseFrame_of_waiting {s : State} (h : s.rxState = .waiting) : s.releaseFrame = { s with buf := [] } := by
  rw [State.releaseFrame, ← h]

/-- Settles O10: the encoded bytes are one whole frame of 1 to 32 DATA bytes, which `take_frame` splits again. -/
theorem encodedFrameRoundTripsThroughTheCodec : Obligations.EncodedFrameRoundTripsThroughTheCodec := by
  intro c a s hw hc hl ha
  have hdata : ∀ b ∈ c :: a, isMarker b = false := List.forall_mem_cons.2 ⟨hc, ha⟩
  refine ⟨_, feedAll_frame_of_waiting hw hdata (List.cons_ne_nil c a) (Nat.succ_le_succ hl), ?_⟩
  have hlogged : (s.logCodec (some .frameReady)).rxState = .waiting := hw
  calc takeFrame ((s.holdFrame (c :: a)).logCodec (some .frameReady))
      = .ok (some ⟨c, a⟩, (s.logCodec (some .frameReady)).releaseFrame) := takeFrame_of_pending ⟨c, a⟩ rfl rfl
    _ = .ok (some ⟨c, a⟩, { s with buf := [], history := s.history ++ [.codec .frameReady] }) := by
      rw [State.releaseFrame_of_waiting hlogged]; rfl

end Sys2Proof.Machine
end

section
/-! PROOFS. The legality gate (41_dispatcher.md): what `handle` answers to a frame that checks 1 and 4 refuse, that a
rejected frame leaves no other trace (R139), and who commands motion (R142). -/

namespace Sys2Proof.Machine

/-! ### Checks 1 to 4 in the bytes of the spec's tables (R76, R137, R141) -/

/-- R76: the code bytes of the recognized set. -/
theorem map_code_all : Command.all.map Command.code = commandCodes := rfl

/-- R132: every command is in the recognized set. -/
theorem mem_command_all (cmd : Command) : cmd ∈ Command.all := by cases cmd <;> decide

/-- R76: the ten codes are exactly the codes of commands. -/
theorem mem_commandCodes_iff {b : Byte} : b ∈ commandCodes ↔ ∃ cmd : Command, cmd.code = b := by
  rw [← map_code_all, List.mem_map]
  exact ⟨fun ⟨cmd, _, h⟩ => ⟨cmd, h⟩, fun ⟨cmd, h⟩ => ⟨cmd, mem_command_all cmd, h⟩⟩

/-- R77: check 1 fails on every other byte. -/
theorem ofCode_eq_none {b : Byte} (h : b ∉ commandCodes) : Command.ofCode? b = none := by
  refine Option.eq_none_iff_forall_ne_some.2 fun cmd hc => ?_
  exact h (mem_commandCodes_iff.2 ⟨cmd, code_of_ofCode hc⟩)

/-- R141: checks 2 and 3 together are the legality matrix, cell by cell. -/
theorem gatePasses_eq_matrixRuns (cmd : Command) (c : Ctrl) : gatePasses cmd c = matrixRuns cmd.code c := by
  cases cmd <;> cases c <;> decide

/-- R137: a wrong argument count goes with a recognized code. -/
theorem code_mem_of_wrongLength {f : Frame} (h : wrongLength f) : f.code ∈ commandCodes := by
  rcases h with ⟨hc, _⟩ | ⟨hc, _⟩ | ⟨hc, _⟩ | ⟨hc, _⟩ | ⟨hc, _⟩
  case inr.inl => exact (by decide : [0x53, 0x48, 0x5A, 0x52, 0x4E, 0x44] ⊆ commandCodes) hc
  all_goals (rw [hc]; decide)

/-- R78, R137: for a recognized code, the wrong counts are those outside the command's layout. -/
theorem wrongLength_code_iff (cmd : Command) (args : List Byte) :
    wrongLength ⟨cmd.code, args⟩ ↔ cmd.argLenOk args.length = false := by
  cases cmd <;> simp [wrongLength, Command.code, Command.argLenOk]

/-- R134: a frame that fails check 1. -/
theorem handleFrame_of_unknown {f : Frame} (s : State) (h : Command.ofCode? f.code = none) :
    handleFrame f s = .next (s.emit (.fault .nack)) := by
  have hd : decode f = .error (.unknownCommand f.code) := by simp only [decode, h]
  simp only [handleFrame, hd, rejectReply]

/-- R137: a frame of a recognized command that fails check 4, once checks 2 and 3 have passed. -/
theorem handleFrame_of_malformed {cmd : Command} {args : List Byte} {s : State}
    (hl : cmd.argLenOk args.length = false) (hg : gatePasses cmd s.ctrl = true) :
    handleFrame ⟨cmd.code, args⟩ s = .next (s.emit (.fault .invalidParameters)) := by
  have ha : decodeArgs cmd args = none := by
    rw [← Option.isNone_iff_eq_none, ← Option.not_isSome, decodeArgs_isSome, hl]; rfl
  have hd : decode ⟨cmd.code, args⟩ = .error (.malformedLength cmd) := by simp only [decode, ofCode_code, ha]
  simp only [handleFrame, hd, rejectReply, hg, if_true]

/-- Settles O18: such a code fails check 1. -/
theorem unknownCommandIsNacked : Obligations.UnknownCommandIsNacked :=
  fun _ s h => handleFrame_of_unknown s (ofCode_eq_none h)

/-- Settles O20: the code names a command, the matrix is its gate, and its layout refuses the count. -/
theorem wrongLengthIsInvalidParameters : Obligations.WrongLengthIsInvalidParameters := by
  rintro ⟨code, args⟩ s hw hm
  obtain ⟨cmd, rfl⟩ := mem_commandCodes_iff.1 (code_mem_of_wrongLength hw)
  exact handleFrame_of_malformed ((wrongLength_code_iff cmd args).1 hw) ((gatePasses_eq_matrixRuns cmd _).trans hm)

/-! ### Rejection (R139) -/

/-- R85, R97: a frame is the frame of one reply only. -/
theorem frame_injective : Function.Injective Reply.frame := by
  rintro ⟨c, p⟩ ⟨c', p'⟩ h
  simp only [Reply.frame, encodeReply, List.cons_append, List.nil_append, List.cons.injEq, true_and,
    List.append_cancel_right_eq] at h
  obtain ⟨hc, rfl⟩ := h
  rw [reply_codes_distinct hc]

/-- The last event after an emission is its frame. -/
theorem getLast_emit_history (s : State) (r : Reply) : (s.emit r).history.getLast? = some (.sent r.frame) := by
  rw [State.emit_history, List.getLast?_concat]

/-- A reply of the gate's own (R134 to R137). -/
abbrev Reply.Rejects (r : Reply) : Prop := r = .fault .nack ∨ r = .fault .invalidParameters

/-- R27: no latched cause is reported as a rejection. -/
theorem not_rejects_cause (c : FaultCause) : ¬ (Reply.fault c.code).Rejects := by cases c <;> decide

/-- R139: a rule that answers with a rejection has done nothing. -/
theorem ruleOf_rejects {i : Instr} {s s' : State} {r : Reply} (h : ruleOf i s = .ok (s', r)) (hr : r.Rejects) :
    s' = s := by
  rcases ruleOf_reply h with rfl | ⟨c, rfl⟩ | ⟨_, hs⟩ | ⟨q, b, rfl⟩ | ⟨d, rfl, _⟩
  · exact absurd hr (by decide)
  · exact absurd hr (not_rejects_cause c)
  · exact hs
  · exact absurd hr (by simp [Reply.Rejects, Reply.data, Reply.fault])
  · exact absurd hr (by simp [Reply.Rejects, Reply.echo, Reply.fault])

/-- R139: a frame handled with a reply that is a rejection leaves that one emission. -/
theorem handleFrame_rejects {f : Frame} {s t : State} {r : Reply} (hr : r.Rejects) (h : handleFrame f s = .next t)
    (hlast : t.history.getLast? = some (.sent r.frame)) : t = s.emit r := by
  have same : ∀ {s' : State} {r' : Reply}, t = s'.emit r' → r' = r := by
    rintro s' r' rfl
    rw [getLast_emit_history, Option.some.injEq, Event.sent.injEq] at hlast
    exact frame_injective hlast
  rcases handleFrame_next h with ⟨_, c, _, _, ht⟩ | ⟨_, _, _, ht⟩ | ⟨i, s', r', _, _, hrule, ht⟩
  · rw [← same ht]; exact ht
  · rw [← same ht]; exact ht
  · obtain rfl := same ht
    rw [ht, ruleOf_rejects hrule hr]

/-- Settles O22: both frames are those of a rejection. -/
theorem rejectedFrameHasNoSideEffect : Obligations.RejectedFrameHasNoSideEffect := by
  rintro f s t reply (rfl | rfl) h hlast
  · exact handleFrame_rejects (r := .fault .nack) (.inl rfl) h hlast
  · exact handleFrame_rejects (r := .fault .invalidParameters) (.inr rfl) h hlast

/-! ### Who commands motion (R142) -/

/-- R142: the call starts a motion, as the instruction of that motion makes it. -/
inductive Call.Starts : Call → Instr → Prop
  | moveTo (target : I32) : Starts (.moveTo target) (.goto target)
  | home : Starts .home .home

/-- Calls that are neither `move_to` nor `home` start nothing. -/
theorem not_starts_of_not_mem {new : List Call} (hgoto : ∀ target, Call.moveTo target ∉ new) (hhome : Call.home ∉ new) :
    ∀ c ∈ new, ∀ i, ¬ c.Starts i := by
  rintro _ hc _ (target | _)
  · exact hgoto target hc
  · exact hhome hc

/-- R142: a rule starts a motion only as its own instruction. -/
theorem ruleOf_motion {i : Instr} {s s' : State} {r : Reply} (h : ruleOf i s = .ok (s', r)) :
    ∃ new, s'.calls = s.calls ++ new ∧ ∀ c ∈ new, ∀ j, c.Starts j → j = i := by
  obtain ⟨new, hcalls, hnew⟩ := ruleOf_calls h
  refine ⟨new, hcalls, fun c hc j hj => ?_⟩
  obtain ⟨hgoto, hhome⟩ := hnew c hc
  cases hj with
  | moveTo target => exact (hgoto target rfl).symm
  | home => exact (hhome rfl).symm

/-- R142: handling a frame starts a motion only as the instruction decoded from it, let through by the gate. -/
theorem handleFrame_motion {f : Frame} {s t : State} (h : handleFrame f s = .next t) :
    ∃ new, t.calls = s.calls ++ new ∧ ∀ c ∈ new, ∀ i, c.Starts i →
      decode f = .ok i ∧ gatePasses (commandOf i) s.ctrl = true := by
  rcases handleFrame_next h with ⟨_, _, _, _, rfl⟩ | ⟨_, _, _, rfl⟩ | ⟨i, s', r, hd, hg, hrule, rfl⟩
  · exact ⟨[], by simp, by simp⟩
  · exact ⟨[], by simp, by simp⟩
  · obtain ⟨new, hcalls, hnew⟩ := ruleOf_motion hrule
    refine ⟨new, by rw [State.emit_calls, hcalls], fun c hc j hj => ?_⟩
    obtain rfl := hnew c hc j hj
    exact ⟨hd, hg⟩

/-- R142, R236: the Service phase starts no motion. -/
theorem servicePhase_no_motion (s : State) :
    ∃ new, (servicePhase s).calls = s.calls ++ new ∧ ∀ c ∈ new, ∀ i, ¬ c.Starts i := by
  rcases servicePhase_cases s with ⟨_, e⟩ | ⟨_, k, _, e⟩ | ⟨_, _, e⟩ | ⟨_, _, e⟩ | ⟨_, _, e⟩
  · exact ⟨[], by simp [e], by simp⟩
  · exact ⟨[.pollFault s.nextPollFault, .stop], by simp [e], not_starts_of_not_mem (by simp) (by simp)⟩
  · exact ⟨[.pollFault s.nextPollFault], by simp [e], not_starts_of_not_mem (by simp) (by simp)⟩
  · refine ⟨[.pollFault s.nextPollFault, .distanceToGo s.callPollFault.nextDistanceToGo], ?_,
      not_starts_of_not_mem (by simp) (by simp)⟩
    rcases motionCompletion_cases s.callPollFault with ⟨_, e'⟩ | ⟨_, e'⟩ <;> simp [e, e']
  · rcases homingCompletion_cases s.callPollFault with ⟨_, e'⟩ | ⟨_, e'⟩ | ⟨_, e'⟩
    case inr.inr =>
      exact ⟨[.pollFault s.nextPollFault, .homeStatus s.callPollFault.nextHomeStatus, .stop], by simp [e, e'],
        not_starts_of_not_mem (by simp) (by simp)⟩
    all_goals exact ⟨[.pollFault s.nextPollFault, .homeStatus s.callPollFault.nextHomeStatus], by simp [e, e'],
      not_starts_of_not_mem (by simp) (by simp)⟩

/-- The codec makes no call (R64). -/
theorem feed_calls {b : Byte} {s t : State} (h : feed b s = .ok t) : t.calls = s.calls := by
  rcases feed_ok h with rfl | rfl | ⟨r, rfl⟩ | ⟨_, _, rfl⟩ | ⟨_, _, _, rfl⟩ <;> simp

/-- R142: a step starts a motion only as the instruction it dispatches, let through by the gate. -/
theorem step_motion {s t : State} (h : step s = .next t) :
    ∃ new, t.calls = s.calls ++ new ∧ ∀ c ∈ new, ∀ i, c.Starts i →
      s.Dispatches i ∧ gatePasses (commandOf i) s.ctrl = true := by
  rcases step_next h with ⟨_, rfl⟩ | ⟨_, _, rfl⟩ | ⟨_, b, q, _, hfeed⟩ | ⟨_, _, rfl⟩ | ⟨hp, hr, f, u, hb, hu, rfl⟩
  · obtain ⟨new, hcalls, hnew⟩ := servicePhase_no_motion s
    exact ⟨new, hcalls, fun c hc i hi => absurd hi (hnew c hc i)⟩
  · exact ⟨[], by simp, by simp⟩
  · exact ⟨[], by simp [feed_calls hfeed], by simp⟩
  · exact ⟨[], by simp, by simp⟩
  · obtain ⟨new, hcalls, hnew⟩ := handleFrame_motion hu
    refine ⟨new, by rw [State.setPhase_calls, hcalls, State.releaseFrame_calls], fun c hc i hi => ?_⟩
    obtain ⟨hd, hg⟩ := hnew c hc i hi
    exact ⟨⟨hp, hr, f, hb, hd⟩, hg⟩

/-- R136, R142: where the gate lets a motion start. -/
theorem ctrl_of_starts {c : Call} {i : Instr} {k : Ctrl} (hi : c.Starts i) (hg : gatePasses (commandOf i) k = true) :
    k = .idle ∨ k = .moving ∨ k = .homing := by
  have hlegal : legalIn (commandOf i) k = true := (Bool.and_eq_true_iff.1 hg).2
  cases hi <;> simpa [commandOf, legalIn, or_assoc] using hlegal

/-- Settles O57: `step_motion` at the two calls that start a motion. -/
theorem motionIsCommandedOnlyWhenLegal : Obligations.MotionIsCommandedOnlyWhenLegal := by
  intro s t new c hstep hcalls hc
  obtain ⟨new', hcalls', hnew⟩ := step_motion hstep
  obtain rfl : new = new' := List.append_cancel_left (hcalls.symm.trans hcalls')
  have backed := hnew c hc
  refine ⟨?goto, ?home, ?legal⟩
  case goto => rintro target rfl; exact (backed _ (.moveTo target)).1
  case home => rintro rfl; exact (backed _ .home).1
  case legal =>
    rintro (rfl | ⟨target, rfl⟩)
    · exact ctrl_of_starts .home (backed _ .home).2
    · exact ctrl_of_starts (.moveTo target) (backed _ (.moveTo target)).2

end Sys2Proof.Machine
end

section
/-! PROOFS. What the command rules alone may write (43_commands_control.md): who leaves Faulted (R173) and who writes the
settings (R181). Both follow from one fact, that a step outside Service changes the controller only by the rule of the
instruction it dispatches. -/

namespace Sys2Proof.Machine

/-! ### What writes the controller's record (R238) -/

/-- The controller's record: its state, the latched cause, the settings and the enable line (R20). -/
structure State.SameControl (s t : State) : Prop where
  ctrl     : t.ctrl = s.ctrl
  cause    : t.cause = s.cause
  settings : t.settings = s.settings
  drvEn    : t.drvEn = s.drvEn

theorem State.SameControl.trans {s t u : State} (hst : s.SameControl t) (htu : t.SameControl u) : s.SameControl u :=
  ⟨htu.ctrl.trans hst.ctrl, htu.cause.trans hst.cause, htu.settings.trans hst.settings, htu.drvEn.trans hst.drvEn⟩

theorem State.emit_sameControl (s : State) (r : Reply) : s.SameControl (s.emit r) := ⟨rfl, rfl, rfl, rfl⟩

theorem State.setPhase_sameControl (s : State) (p : Phase) : s.SameControl (s.setPhase p) := ⟨rfl, rfl, rfl, rfl⟩

theorem State.dropRead_sameControl (s : State) : s.SameControl s.dropRead := ⟨rfl, rfl, rfl, rfl⟩

theorem State.releaseFrame_sameControl (s : State) : s.SameControl s.releaseFrame := ⟨rfl, rfl, rfl, rfl⟩

/-- R116: the codec writes nothing of the controller's. -/
theorem feed_sameControl {b : Byte} {s t : State} (h : feed b s = .ok t) : s.SameControl t := by
  rcases feed_ok h with rfl | rfl | ⟨r, rfl⟩ | ⟨_, _, rfl⟩ | ⟨_, _, _, rfl⟩ <;> constructor <;> simp

/-- R139, R238: handling a frame changes the controller only by the rule of the instruction decoded from it, let through
by the gate. -/
theorem handleFrame_control {f : Frame} {s t : State} (h : handleFrame f s = .next t) :
    s.SameControl t ∨ ∃ i s' r, decode f = .ok i ∧ gatePasses (commandOf i) s.ctrl = true ∧
      ruleOf i s = .ok (s', r) ∧ s'.SameControl t := by
  rcases handleFrame_next h with ⟨_, _, _, _, rfl⟩ | ⟨_, _, _, rfl⟩ | ⟨i, s', r, hd, hg, hrule, rfl⟩
  · exact .inl (s.emit_sameControl _)
  · exact .inl (s.emit_sameControl _)
  · exact .inr ⟨i, s', r, hd, hg, hrule, s'.emit_sameControl r⟩

/-- R235 to R238: a step is the Service phase, or leaves the controller alone, or changes it by the rule of the instruction
it dispatches, let through by the gate. -/
theorem step_control {s t : State} (h : step s = .next t) :
    t = servicePhase s ∨ s.SameControl t ∨
      ∃ i s' r, s.Dispatches i ∧ gatePasses (commandOf i) s.ctrl = true ∧
        ruleOf i s.releaseFrame = .ok (s', r) ∧ s'.SameControl t := by
  rcases step_next h with ⟨_, rfl⟩ | ⟨_, _, rfl⟩ | ⟨_, b, q, _, hfeed⟩ | ⟨_, _, rfl⟩ | ⟨hp, hr, f, u, hb, hu, rfl⟩
  · exact .inl rfl
  · exact .inr (.inl (s.setPhase_sameControl _))
  · exact .inr (.inl (s.dropRead_sameControl.trans (feed_sameControl hfeed)))
  · exact .inr (.inl (s.setPhase_sameControl _))
  · rcases handleFrame_control hu with same | ⟨i, s', r, hd, hg, hrule, same⟩
    · exact .inr (.inl ((s.releaseFrame_sameControl.trans same).trans (u.setPhase_sameControl _)))
    · exact .inr (.inr ⟨i, s', r, ⟨hp, hr, f, hb, hd⟩, hg, hrule, same.trans (u.setPhase_sameControl _)⟩)

/-! ### Leaving Faulted (R173) -/

/-- R236, R268: the Service phase does not leave Faulted. -/
theorem servicePhase_keeps_faulted {s : State} (hf : s.ctrl = .faulted) : (servicePhase s).ctrl = .faulted := by
  rcases servicePhase_cases s with ⟨_, e⟩ | ⟨hn, _⟩ | ⟨hc | hc, _⟩ | ⟨hc, _⟩ | ⟨hc, _⟩
  · rw [e, State.setPhase_ctrl, hf]
  · exact absurd hf hn
  all_goals exact absurd (hc.symm.trans hf) (by decide)

/-- Settles O56: outside a dispatched rule Faulted persists, and the rule that leaves it is RESET's
(`ruleOf_leaves_faulted`). -/
theorem onlyASuccessfulResetLeavesFaulted : Obligations.OnlyASuccessfulResetLeavesFaulted := by
  intro s t hf hstep hleft
  rcases step_control hstep with rfl | same | ⟨i, s', r, hdisp, hg, hrule, same⟩
  · exact absurd (servicePhase_keeps_faulted hf) hleft
  · exact absurd (same.ctrl.trans hf) hleft
  · rw [same.ctrl] at hleft ⊢
    rw [same.cause]
    obtain ⟨rfl, hclear, hcause, hctrl⟩ := ruleOf_leaves_faulted (s := s.releaseFrame) hf hg hrule hleft
    exact ⟨hdisp, hclear, hcause, hctrl⟩

/-! ### Writing the settings (R181) -/

/-- R135, R136: where the gate lets UPDATE_PARAMETERS through. Faulted is legal for it, but not on the allow-list. -/
theorem ctrl_of_updateParameters_passes {k : Ctrl} (h : gatePasses .updateParameters k = true) :
    k = .idle ∨ k = .disabled := by
  cases k with
  | idle => exact .inl rfl
  | disabled => exact .inr rfl
  | moving => exact absurd h (by decide)
  | homing => exact absurd h (by decide)
  | faulted => exact absurd h (by decide)

/-- Settles O59: outside a dispatched rule the settings persist, and the rule that writes them is UPDATE_PARAMETERS's
(`ruleOf_settings`). -/
theorem settingsChangeOnlyByAnAcceptedUpdate : Obligations.SettingsChangeOnlyByAnAcceptedUpdate := by
  intro s t hstep hchanged
  rcases step_control hstep with rfl | same | ⟨i, s', r, hdisp, hg, hrule, same⟩
  · obtain ⟨_, _, _, _, _, hsettings, _⟩ := servicePhase_keeps s
    exact absurd hsettings hchanged
  · exact absurd same.settings hchanged
  · rcases ruleOf_settings hrule with hkept | ⟨m, rfl, hvalid, hwritten⟩
    · exact absurd (same.settings.trans hkept) hchanged
    · exact ⟨m, hdisp, hvalid, ctrl_of_updateParameters_passes hg, same.settings.trans hwritten⟩

end Sys2Proof.Machine
end

section
/-! PROOFS. QUERY and ECHO (44_commands_query_echo.md): both are legal in every state, so each replies what its own rule
answers, and none of those rules does more than read. -/

namespace Sys2Proof.Machine

/-! ### Which instructions are queries or echoes (R76, R200) -/

/-- R76: the code byte of an instruction's frame is its command's. -/
theorem encode_code (i : Instr) : (encode i).code = (commandOf i).code := by cases i <;> rfl

/-- R87, R200: each QUERY form runs QUERY's dispatch at its own sub-code. -/
theorem ruleOf_query {i : Instr} (h : commandOf i = .query) : ∃ sub, ruleOf i = queryRule sub := by
  cases i
  case query sub => exact ⟨sub, rfl⟩
  case queryModel => exact ⟨QuerySub.model.code, rfl⟩
  case querySerial => exact ⟨QuerySub.serial.code, rfl⟩
  case queryFirmware => exact ⟨QuerySub.firmware.code, rfl⟩
  case queryFaults => exact ⟨QuerySub.faults.code, rfl⟩
  case queryParameters => exact ⟨QuerySub.parameters.code, rfl⟩
  case queryPosition => exact ⟨QuerySub.position.code, rfl⟩
  case queryMode => exact ⟨QuerySub.mode.code, rfl⟩
  all_goals cases h

/-- R210: the one form of ECHO. -/
theorem ruleOf_echo {i : Instr} (h : commandOf i = .echo) : ∃ data, ruleOf i = echoRule data := by
  cases i
  case echo data => exact ⟨data, rfl⟩
  all_goals cases h

/-! ### They run in every state (R135, R136) -/

/-- R135, R136: QUERY is legal in every state and on the allow-list. -/
theorem gatePasses_query (c : Ctrl) : gatePasses .query c = true := by cases c <;> decide

/-- R135, R136: ECHO is legal in every state and on the allow-list. -/
theorem gatePasses_echo (c : Ctrl) : gatePasses .echo c = true := by cases c <;> decide

/-- R138: an instruction the gate lets through replies what its rule answers. -/
theorem exec_of_passes {i : Instr} {s s' : State} {r : Reply} (hg : gatePasses (commandOf i) s.ctrl = true)
    (h : ruleOf i s = .ok (s', r)) : exec i s = .next (s'.emit r) :=
  (exec_eq_runCommand i s).trans (runCommand_of_passes hg h)

/-- R138: a QUERY form replies what its rule answers, in every state. -/
theorem exec_of_query {i : Instr} {s s' : State} {r : Reply} (hi : commandOf i = .query)
    (h : ruleOf i s = .ok (s', r)) : exec i s = .next (s'.emit r) :=
  exec_of_passes (hi ▸ gatePasses_query s.ctrl) h

/-- R202 to R204: a text query replies its text after its sub-code. -/
theorem exec_of_text {i : Instr} {q : QuerySub} {text : List Char} {s : State} (hi : commandOf i = .query)
    (h : ruleOf i s = .ok (s, .text q text)) :
    exec i s = .next (s.replied ([0x3C, 0x41, q.code] ++ asciiBytes text ++ [0x3E])) := by
  rw [exec_of_query hi h, State.emit, Reply.text, frame_data]

/-- Settles O37: each of the three is a text query. -/
theorem textQueriesReplyTheTexts : Obligations.TextQueriesReplyTheTexts := fun _ =>
  ⟨exec_of_text (i := .queryModel) rfl rfl, exec_of_text (i := .querySerial) rfl rfl,
    exec_of_text (i := .queryFirmware) rfl rfl⟩

/-- Settles O41: the code is `Ctrl.stateCode`, state by state R89's. -/
theorem modeQueryRepliesTheStateCode : Obligations.ModeQueryRepliesTheStateCode := by
  intro s
  have codeAt : ∀ {c : Ctrl}, s.ctrl = c → s.ctrl.stateCode = c.stateCode := congrArg Ctrl.stateCode
  exact ⟨s.ctrl.stateCode, exec_of_query (i := .queryMode) rfl rfl, codeAt, codeAt, codeAt, codeAt, codeAt⟩

/-- Settles O43: ECHO's rule answers its arguments, and no state refuses it. -/
theorem echoRepliesItsArguments : Obligations.EchoRepliesItsArguments := by
  intro s data
  have hrun : exec (.echo data) s = .next (s.emit (.echo data)) := exec_of_passes (gatePasses_echo s.ctrl) rfl
  rw [hrun, State.emit, frame_echo]

/-! ### They only read (R211) -/

/-- R211: the collaborator calls that only read: those of R205 and R207. -/
inductive Call.IsRead : Call → Prop
  | readFault (b : Byte) : IsRead (.readFault b)
  | readDiag1 (b : Byte) : IsRead (.readDiag1 b)
  | readDiag2 (b : Byte) : IsRead (.readDiag2 b)
  | currentPosition (p : I32) : IsRead (.currentPosition p)

/-- R211: from `s` to `t` the controller's record is kept, and every call made is a read. -/
structure State.OnlyReads (s t : State) : Prop where
  control : s.SameControl t
  calls   : ∃ new, t.calls = s.calls ++ new ∧ ∀ c ∈ new, c.IsRead

theorem State.OnlyReads.refl (s : State) : s.OnlyReads s := ⟨⟨rfl, rfl, rfl, rfl⟩, [], by simp, by simp⟩

theorem State.OnlyReads.trans {s t u : State} (hst : s.OnlyReads t) (htu : t.OnlyReads u) : s.OnlyReads u := by
  obtain ⟨control, new, hcalls, hnew⟩ := hst
  obtain ⟨control', new', hcalls', hnew'⟩ := htu
  refine ⟨control.trans control', new ++ new', by rw [hcalls', hcalls, List.append_assoc], fun c hc => ?_⟩
  exact (List.mem_append.1 hc).elim (hnew c) (hnew' c)

/-- One call that is a read, with the controller's record kept. -/
theorem State.OnlyReads.of_call {s t : State} {c : Call} (hc : c.IsRead) (control : s.SameControl t)
    (hcalls : t.calls = s.calls ++ [c]) : s.OnlyReads t :=
  ⟨control, [c], hcalls, fun _ h => List.mem_singleton.1 h ▸ hc⟩

theorem State.callReadFault_onlyReads (s : State) : s.OnlyReads s.callReadFault :=
  .of_call (.readFault _) ⟨rfl, rfl, rfl, rfl⟩ s.callReadFault_calls

theorem State.callReadDiag1_onlyReads (s : State) : s.OnlyReads s.callReadDiag1 :=
  .of_call (.readDiag1 _) ⟨rfl, rfl, rfl, rfl⟩ s.callReadDiag1_calls

theorem State.callReadDiag2_onlyReads (s : State) : s.OnlyReads s.callReadDiag2 :=
  .of_call (.readDiag2 _) ⟨rfl, rfl, rfl, rfl⟩ s.callReadDiag2_calls

theorem State.callCurrentPosition_onlyReads (s : State) : s.OnlyReads s.callCurrentPosition :=
  .of_call (.currentPosition _) ⟨rfl, rfl, rfl, rfl⟩ s.callCurrentPosition_calls

theorem State.emit_onlyReads (s : State) (r : Reply) : s.OnlyReads (s.emit r) :=
  ⟨s.emit_sameControl r, [], by simp, by simp⟩

/-- All that QUERY(FAULTS) can do (R205): nothing while Faulted, the three reads in order elsewhere. -/
theorem faultsRule_ok {s s' : State} {r : Reply} (h : faultsRule s = .ok (s', r)) :
    (s.ctrl = .faulted ∧ s' = s ∧ ∃ c, s.cause = some c ∧ r = .fault c.code) ∨
      (s.ctrl ≠ .faulted ∧ (s', r) = readFaultRegisters s) := by
  unfold faultsRule State.causeReply at h
  split at h
  · next hf =>
    split at h
    · next c hc => cases h; exact .inl ⟨by simpa [State.isFaulted] using hf, rfl, c, hc, rfl⟩
    · cases h
  · next hf => cases h; exact .inr ⟨by simpa [State.isFaulted] using hf, rfl⟩

/-- R205, R211: QUERY(FAULTS) only reads. -/
theorem faultsRule_onlyReads {s s' : State} {r : Reply} (h : faultsRule s = .ok (s', r)) : s.OnlyReads s' := by
  rcases faultsRule_ok h with ⟨_, rfl, _⟩ | ⟨_, hread⟩
  · exact .refl s'
  · obtain ⟨rfl, _⟩ := Prod.mk.inj hread
    exact (s.callReadFault_onlyReads.trans (State.callReadDiag1_onlyReads _)).trans (State.callReadDiag2_onlyReads _)

/-- R200, R211: whatever its sub-code, QUERY only reads. -/
theorem queryRule_onlyReads {sub : Byte} {s s' : State} {r : Reply} (h : queryRule sub s = .ok (s', r)) :
    s.OnlyReads s' := by
  rcases queryRule_cases sub with e | e | e | e | e | e | e | e <;> rw [e] at h
  case inr.inr.inr.inl => exact faultsRule_onlyReads h
  case inr.inr.inr.inr.inr.inl => cases h; exact s.callCurrentPosition_onlyReads
  all_goals (cases h; exact .refl s)

/-- R211: the rules reached from R200 and R210 only read. -/
theorem ruleOf_onlyReads {i : Instr} {s s' : State} {r : Reply} (hi : commandOf i = .query ∨ commandOf i = .echo)
    (h : ruleOf i s = .ok (s', r)) : s.OnlyReads s' := by
  rcases hi with hi | hi
  · obtain ⟨sub, e⟩ := ruleOf_query hi
    exact queryRule_onlyReads (e ▸ h)
  · obtain ⟨data, e⟩ := ruleOf_echo hi
    rw [e] at h
    cases h
    exact .refl s

/-- R139, R211: and so does the whole instruction, with the gate before the rule and the reply after it. -/
theorem exec_onlyReads {i : Instr} {s t : State} (hi : commandOf i = .query ∨ commandOf i = .echo)
    (h : exec i s = .next t) : s.OnlyReads t := by
  rw [exec_eq_runCommand] at h
  rcases runCommand_next h with ⟨_, rfl⟩ | ⟨_, s', r, hrule, rfl⟩
  · exact s.emit_onlyReads _
  · exact (ruleOf_onlyReads hi hrule).trans (s'.emit_onlyReads r)

/-- Settles O44: the two code bytes name QUERY and ECHO, whose instructions only read. -/
theorem queryAndEchoAreReadOnly : Obligations.QueryAndEchoAreReadOnly := by
  intro s t i hcode h
  rw [encode_code] at hcode
  have hi : commandOf i = .query ∨ commandOf i = .echo :=
    hcode.imp (command_codes_distinct (b := .query)) (command_codes_distinct (b := .echo))
  obtain ⟨same, new, hcalls, hnew⟩ := exec_onlyReads hi h
  refine ⟨same.ctrl, same.cause, same.drvEn, same.settings, new, hcalls, fun c hc => ?_⟩
  cases hnew c hc with
  | readFault b => exact .inl ⟨b, rfl⟩
  | readDiag1 b => exact .inr (.inl ⟨b, rfl⟩)
  | readDiag2 b => exact .inr (.inr (.inl ⟨b, rfl⟩))
  | currentPosition p => exact .inr (.inr (.inr ⟨p, rfl⟩))

end Sys2Proof.Machine
end

section
/-! PROOFS. The machine right after reset (70_reset_and_hazards.md): the logs of R31 are read off the event history, so an
empty history empties all three; every other element is a field of its own. -/

namespace Sys2Proof.Machine

/-! ### An empty history (R31) -/

theorem State.tx_of_history_nil {s : State} (h : s.history = []) : s.tx = [] := by
  simp [State.tx, State.frames, h]

theorem State.calls_of_history_nil {s : State} (h : s.history = []) : s.calls = [] := by
  simp [State.calls, h]

theorem State.diag_of_history_nil {s : State} (h : s.history = []) : s.diag = [] := by
  simp [State.diag, h]

/-! ### Reset (R290) -/

/-- R290: reset makes no collaborator call, emits no frame and reports no codec result. -/
theorem State.reset_history : State.reset.history = [] := rfl

/-- Settles O1: the stored elements are `State.reset`'s own fields, and the three logs are those of an empty history. -/
theorem resetHoldsTheStatedValues : Obligations.ResetHoldsTheStatedValues := by
  have htx : State.reset.tx = [] := State.tx_of_history_nil State.reset_history
  have hcalls : State.reset.calls = [] := State.calls_of_history_nil State.reset_history
  have hdiag : State.reset.diag = [] := State.diag_of_history_nil State.reset_history
  exact ⟨rfl, rfl, rfl, rfl, rfl, rfl, rfl, htx, hcalls, hdiag, rfl⟩

end Sys2Proof.Machine
end

section
/-! PROOFS. The encoding of commands (30_encoding.md): decoder and encoder undo each other (R76, R87, R95), and so do
the settings record and its legal images (R91, R92, R178, R182). -/

namespace Sys2Proof.Machine

/-! ### Commands (R76, R87, R95) -/

/-- R91: a settings image is read back from its ten bytes. -/
theorem decodeArgs_encodeImage (m : SettingsImage) :
    decodeArgs .updateParameters (encodeImage m) = some (.updateParameters m) := by
  simp [encodeImage, be16Bytes, decodeArgs, decodeImage, be16_be16Bytes]

/-- R79: a target is read back from its four bytes. -/
theorem decodeArgs_be32Bytes (target : I32) : decodeArgs .goto (be32Bytes target) = some (.goto target) := by
  simp [be32Bytes, decodeArgs, be32s_be32Bytes]

/-- R201: a sub-code outside R87 selects the form that carries it. -/
theorem decodeQuery_of_unlisted {sub : Byte} (h : QuerySub.ofCode? sub = none) : decodeQuery sub = .query sub := by
  simp only [decodeQuery, h]

/-- R76, R78: with a command's code, the arguments alone decide what is decoded. -/
theorem decode_of_decodeArgs {cmd : Command} {args : List Byte} {i : Instr} (h : decodeArgs cmd args = some i) :
    decode ⟨cmd.code, args⟩ = .ok i := by
  simp only [decode, ofCode_code, h]

/-- Settles O13: each frame has its command's code, and its arguments are read back by that command's layout. -/
theorem decodeOfEncodeIsTheInstruction : Obligations.DecodeOfEncodeIsTheInstruction := by
  intro i hwf
  have readBack : ∀ {cmd : Command} {args : List Byte}, encode i = ⟨cmd.code, args⟩ →
      decodeArgs cmd args = some i → decode (encode i) = .ok i := by
    rintro cmd args hframe hargs
    rw [hframe, decode_of_decodeArgs hargs]
  cases i
  case goto target => exact readBack rfl (decodeArgs_be32Bytes target)
  case updateParameters m => exact readBack rfl (decodeArgs_encodeImage m)
  case query sub =>
    obtain ⟨hunlisted, _⟩ := Bool.and_eq_true_iff.1 hwf
    exact readBack rfl (congrArg some (decodeQuery_of_unlisted (Option.isNone_iff_eq_none.1 hunlisted)))
  case echo data =>
    obtain ⟨hfits, _⟩ := Bool.and_eq_true_iff.1 hwf
    exact readBack rfl (if_pos (of_decide_eq_true hfits))
  all_goals exact readBack rfl rfl

/-- R91: the bytes of a decoded settings image are those it was decoded from. -/
theorem encodeImage_decodeImage (a0 a1 a2 a3 a4 a5 a6 a7 a8 a9 : Byte) :
    encodeImage (decodeImage a0 a1 a2 a3 a4 a5 a6 a7 a8 a9) = [a0, a1, a2, a3, a4, a5, a6, a7, a8, a9] := by
  simp [encodeImage, decodeImage, be16Bytes_be16]

/-- R80, R87: a QUERY form carries the sub-code that selected it. -/
theorem encode_decodeQuery (sub : Byte) : encode (decodeQuery sub) = ⟨Command.query.code, [sub]⟩ := by
  cases hq : QuerySub.ofCode? sub with
  | none => rw [decodeQuery_of_unlisted hq]; rfl
  | some q =>
    obtain rfl := subCode_of_ofCode hq
    cases q <;> rfl

/-- R78: a command's arguments are the ones its decoded form encodes. -/
theorem encode_of_decodeArgs {cmd : Command} {args : List Byte} {i : Instr} (h : decodeArgs cmd args = some i) :
    encode i = ⟨cmd.code, args⟩ := by
  cases cmd <;> simp only [decodeArgs] at h
  case goto =>
    split at h
    · cases h; rw [encode, be32Bytes_be32s]
    · cases h
  case updateParameters =>
    split at h
    · cases h; rw [encode, encodeImage_decodeImage]
    · cases h
  case query =>
    split at h
    · cases h; exact encode_decodeQuery _
    · cases h
  all_goals
    split at h
    · next hargs => cases h; simp only [encode, hargs]
    · cases h

/-- Settles O14: the code names a command, whose layout encodes back to the arguments. -/
theorem encodeOfDecodeIsTheFrame : Obligations.EncodeOfDecodeIsTheFrame := by
  rintro ⟨code, args⟩ i h
  rcases decode_cases ⟨code, args⟩ with ⟨_, e⟩ | ⟨_, _, _, e⟩ | ⟨cmd, j, hcode, _, hargs, e⟩
  · cases h.symm.trans e
  · cases h.symm.trans e
  · cases h.symm.trans e
    rw [encode_of_decodeArgs hargs, code_of_ofCode hcode]

/-- Settles O15: the nine frames, each by running the decoder. -/
theorem specFramesDecode : Obligations.SpecFramesDecode := ⟨rfl, rfl, rfl, rfl, rfl, rfl, rfl, rfl, rfl⟩

/-! ### Settings images (R91, R92, R178, R182) -/

/-- Two bits of a vector are 0 together exactly when each is. -/
theorem extractLsb'_two_eq_zero_iff {w : Nat} (v : BitVec w) (k : Nat) :
    v.extractLsb' k 2 = 0 ↔ v.getLsbD k = false ∧ v.getLsbD (k + 1) = false := by
  constructor
  · intro h
    have bit : ∀ j < 2, v.getLsbD (k + j) = false := fun j hj => by
      simpa [hj] using congrArg (fun x : BitVec 2 => x.getLsbD j) h
    exact ⟨bit 0 (by decide), bit 1 (by decide)⟩
  · rintro ⟨h0, h1⟩
    refine BitVec.eq_of_getLsbD_eq fun j hj => ?_
    match j, hj with
    | 0, _ => simp [h0]
    | 1, _ => simp [h1]

/-- Settles O16: three bounds on natural numbers are bounds on bytes, and the last clause is about two bits. -/
theorem validateAcceptsExactlyTheLegalImages : Obligations.ValidateAcceptsExactlyTheLegalImages := by
  intro m
  simp only [validate, Bool.and_eq_true, decide_eq_true_eq, beq_iff_eq, extractLsb'_two_eq_zero_iff, and_assoc]
  rfl

/-- The bits of a natural number given by its lowest bit and the rest. -/
theorem testBit_two_mul_add (b : Bool) (n j : Nat) :
    (2 * n + b.toNat).testBit j = if j = 0 then b else n.testBit (j - 1) := by
  rw [← Nat.bit_val]
  cases j with
  | zero => exact Nat.testBit_bit_zero b n
  | succ j => exact Nat.testBit_bit_succ j b n

/-- R92: the flags byte bit by bit, the lowest first. -/
theorem getLsbD_flagsByte (r : Settings) {j : Nat} (hj : j < 8) :
    (flagsByte r).getLsbD j =
      [r.lim1En, r.lim1Pol, r.lim2En, r.lim2Pol, r.homeEn, r.homePol, false, false].getD j false := by
  have horner : flagsByte r = BitVec.ofNat 8 (2 * (2 * (2 * (2 * (2 * (2 * 0 + r.homePol.toNat) + r.homeEn.toNat) +
      r.lim2Pol.toNat) + r.lim2En.toNat) + r.lim1Pol.toNat) + r.lim1En.toNat) := by
    rw [flagsByte]
    congr 1
    omega
  rw [horner, BitVec.getLsbD_ofNat, decide_eq_true hj, Bool.true_and]
  simp only [testBit_two_mul_add]
  match j, hj with
  | 0, _ | 1, _ | 2, _ | 3, _ | 4, _ | 5, _ | 6, _ | 7, _ => rfl

/-- R178: taking the low four bits of a byte that is at most 15 loses nothing. -/
theorem setWidth_extractLsb'_low {b : Byte} (h : b ≤ 0x0F) : (b.extractLsb' 0 4).setWidth 8 = b := by
  have hb : b.toNat ≤ 15 := h
  refine BitVec.eq_of_toNat_eq ?_
  simp only [BitVec.toNat_setWidth, BitVec.extractLsb'_toNat, Nat.shiftRight_zero]
  omega

/-- R178: a 4-bit field comes back from the byte it was widened to. -/
theorem extractLsb'_setWidth_low (v : U4) : (v.setWidth 8).extractLsb' 0 4 = v := by
  have hv : v.toNat < 16 := v.isLt
  refine BitVec.eq_of_toNat_eq ?_
  simp only [BitVec.toNat_setWidth, BitVec.extractLsb'_toNat, Nat.shiftRight_zero]
  omega

/-- R91: a widened 4-bit field is at most 15. -/
theorem setWidth_le (v : U4) : v.setWidth 8 ≤ (0x0F : Byte) := by
  have hv : v.toNat < 16 := v.isLt
  rw [BitVec.le_def, BitVec.toNat_setWidth]
  show v.toNat % 2 ^ 8 ≤ 15
  omega

/-- R92, R178: a flags byte with bits 7:6 clear is the one of the switch flags it decodes to. -/
theorem flagsByte_decodeSettings {m : SettingsImage} (h6 : m.flags.getLsbD 6 = false) (h7 : m.flags.getLsbD 7 = false) :
    flagsByte (decodeSettings m) = m.flags := by
  refine BitVec.eq_of_getLsbD_eq fun j hj => (getLsbD_flagsByte _ hj).trans ?_
  match j, hj with
  | 0, _ | 1, _ | 2, _ | 3, _ | 4, _ | 5, _ => rfl
  | 6, _ => exact h6.symm
  | 7, _ => exact h7.symm

/-- R178: an image that `validate` accepts is the image of the record it decodes to. -/
theorem imageOf_decodeSettings {m : SettingsImage} (h : validate m = true) : imageOf (decodeSettings m) = m := by
  obtain ⟨hrun, hsleep, hmicro, h6, h7⟩ := (validateAcceptsExactlyTheLegalImages m).1 h
  have hflags := flagsByte_decodeSettings h6 h7
  obtain ⟨run, sleep, micro, st, ts, acc, flags⟩ := m
  simp only [imageOf, hflags]
  simp only [decodeSettings, setWidth_extractLsb'_low hrun, setWidth_extractLsb'_low hsleep,
    setWidth_extractLsb'_low hmicro]

/-- R91, R182: the image of a record is legal. -/
theorem validate_imageOf (r : Settings) : validate (imageOf r) = true := by
  have bit6 : (flagsByte r).getLsbD 6 = false := getLsbD_flagsByte r (by decide)
  have bit7 : (flagsByte r).getLsbD 7 = false := getLsbD_flagsByte r (by decide)
  exact (validateAcceptsExactlyTheLegalImages _).2 ⟨setWidth_le _, setWidth_le _, setWidth_le _, bit6, bit7⟩

/-- R178: a record comes back from its image. -/
theorem decodeSettings_imageOf (r : Settings) : decodeSettings (imageOf r) = r := by
  have bits := fun j (hj : j < 8) => getLsbD_flagsByte r hj
  simp only [decodeSettings, imageOf, extractLsb'_setWidth_low, bits 0 (by decide), bits 1 (by decide),
    bits 2 (by decide), bits 3 (by decide), bits 4 (by decide), bits 5 (by decide)]
  rfl

/-- Settles O17: the two directions of the correspondence. -/
theorem settingsImageRoundTrips : Obligations.SettingsImageRoundTrips :=
  ⟨fun _ => imageOf_decodeSettings, fun r => ⟨validate_imageOf r, decodeSettings_imageOf r⟩⟩

end Sys2Proof.Machine
end

section
/-! PROOFS. The Frame Codec on whole byte sequences (40_frame_codec.md): resynchronisation (R113, R301), marker values
among the arguments (R295), and that from a good state no sequence stops it or breaks R22. -/

namespace Sys2Proof.Machine

/-! ### Markers out of place (R103, R113, R295, R301) -/

/-- R103: from Reading, a start marker gives DoubleStart. -/
theorem feedAll_start_of_reading {s : State} (h : s.rxState = .reading) (bs : List Byte) :
    feedAll (Config.pStart :: bs) s = feedAll bs (s.discardFrame .doubleStart) :=
  feedAll_cons (feed_start_of_reading h) bs

/-- R71, R102: DATA bytes and an end marker are noise in Waiting. -/
theorem feedAll_data_end_of_waiting {s : State} {d : List Byte} (h : s.rxState = .waiting)
    (hd : ∀ b ∈ d, isMarker b = false) : feedAll (d ++ [Config.pEnd]) s = .ok s := by
  refine feedAll_waiting h fun b hb => ?_
  rcases List.mem_append.1 hb with hb | hb
  · exact ((isMarker_eq_false_iff b).1 (hd b hb)).1
  · rw [List.mem_singleton.1 hb]; exact start_ne_end.symm

/-- Settles O11: from Reading the first start marker only brings the codec back to Waiting. -/
theorem resynchronisationNeedsAFreshStart : Obligations.ResynchronisationNeedsAFreshStart := by
  intro d s hd hpos hcap
  have hne : d ≠ [] := List.ne_nil_of_length_pos hpos
  have waiting : (s.discardFrame .doubleStart).rxState = .waiting := rfl
  refine ⟨fun h => feedAll_frame_of_waiting h hd hne hcap, fun h => ?lost, fun h => ?secondStart⟩
  case lost => exact (feedAll_start_of_reading h _).trans (feedAll_data_end_of_waiting waiting hd)
  case secondStart =>
    calc feedAll (Config.pStart :: (Config.pStart :: d ++ [Config.pEnd])) s
        = feedAll (Config.pStart :: d ++ [Config.pEnd]) (s.discardFrame .doubleStart) := feedAll_start_of_reading h _
      _ = .ok (((s.discardFrame .doubleStart).holdFrame d).logCodec (some .frameReady)) :=
        feedAll_frame_of_waiting waiting hd hne hcap
      _ = _ := by simp [State.discardFrame, State.releaseFrame, State.holdFrame, State.logCodec]

/-- R101, R106: from Waiting, a start marker and DATA bytes that fit are a frame being read. -/
theorem feedAll_start_data_of_waiting {s : State} {d : List Byte} (h : s.rxState = .waiting)
    (hd : ∀ b ∈ d, isMarker b = false) (hcap : d.length ≤ Config.pCap) :
    feedAll (Config.pStart :: d) s = .ok { s.startFrame with buf := d } :=
  (feedAll_cons (feed_start_of_waiting h) d).trans (feedAll_reading rfl hd (by simpa using hcap))

/-- Settles O12: an end marker leaves the codec Pending, deaf to the rest; a start marker leaves it Waiting, where the
rest is noise. -/
theorem markerInArgumentsBreaksTheFrame : Obligations.MarkerInArgumentsBreaksTheFrame := by
  intro c front s hw hc hfront hl
  have hdata : ∀ b ∈ c :: front, isMarker b = false := List.forall_mem_cons.2 ⟨hc, hfront⟩
  have hcap : (c :: front).length ≤ Config.pCap := Nat.succ_le_succ hl
  refine ⟨fun rest => ?endMarker, fun rest hrest => ?startMarker⟩
  case endMarker =>
    have frame := feedAll_frame_of_waiting hw hdata (List.cons_ne_nil c front) hcap
    exact (feedAll_append frame).trans (feedAll_pending rfl rest)
  case startMarker =>
    have hsplit : [0x3C, c] ++ front ++ [0x3C] ++ rest ++ [0x3E] =
        (Config.pStart :: c :: front) ++ Config.pStart :: (rest ++ [Config.pEnd]) := by
      simp [Config.pStart, Config.pEnd]
    rw [hsplit, feedAll_append (feedAll_start_data_of_waiting hw hdata hcap), feedAll_start_of_reading rfl,
      feedAll_data_end_of_waiting rfl hrest, State.discardFrame, State.releaseFrame, State.logCodec, ← hw]
    rfl

/-! ### No sequence stops the codec (R22, R248) -/

/-- R22: the codec's invariant reads the receiver state and the buffer only. -/
theorem State.CodecInv.congr {s t : State} (h : s.CodecInv) (hrx : t.rxState = s.rxState) (hbuf : t.buf = s.buf) :
    t.CodecInv := by
  simpa only [State.CodecInv, hrx, hbuf] using h

/-- R248: `feed` answers every byte in a state within R22's bound. -/
theorem feed_total {s : State} (h : s.CodecInv) (b : Byte) : ∃ t, feed b s = .ok t := by
  obtain ⟨_, _, hcap, _⟩ := h
  cases hf : feed b s with
  | ok t => exact ⟨t, rfl⟩
  | error e => exact absurd (feed_error hf) (Nat.not_lt.2 hcap)

/-- R64: the codec leaves the receive queue and the phase to the loop. -/
theorem feed_keeps_loop {b : Byte} {s t : State} (h : feed b s = .ok t) : t.rxQ = s.rxQ ∧ t.phase = s.phase := by
  rcases feed_ok h with rfl | rfl | ⟨r, rfl⟩ | ⟨_, _, rfl⟩ | ⟨_, _, _, rfl⟩ <;> simp

/-- R22, R64, R248: any sequence of bytes is read through, with the codec's invariant kept and the rest left alone. -/
theorem feedAll_total (bs : List Byte) {s : State} (h : s.CodecInv) :
    ∃ t, feedAll bs s = .ok t ∧ t.CodecInv ∧ s.SameControl t ∧ t.rxQ = s.rxQ := by
  induction bs generalizing s with
  | nil => exact ⟨s, rfl, h, ⟨rfl, rfl, rfl, rfl⟩, rfl⟩
  | cons b bs ih =>
    obtain ⟨u, hfeed⟩ := feed_total h b
    obtain ⟨t, hrest, hinv, same, hq⟩ := ih (feed_codecInv h hfeed)
    exact ⟨t, (feedAll_cons hfeed bs).trans hrest, hinv, (feed_sameControl hfeed).trans same,
      hq.trans (feed_keeps_loop hfeed).1⟩

end Sys2Proof.Machine
end

section
/-! PROOFS. The gate and the replies (41_dispatcher.md, 45_reply_encoder.md): which cells of the matrix refuse what
(R141), and what each reply may be: one to a frame (R140), within the payload bound (R226), with a marker value only from
three queries (R296). -/

namespace Sys2Proof.Machine

/-! ### The refused cells of the matrix (R133, R141) -/

/-- R133: checks 2 and 3 come before check 4, so a refused command's arguments do not matter. -/
theorem handleFrame_of_refused {cmd : Command} {args : List Byte} {s : State} (hg : gatePasses cmd s.ctrl = false) :
    handleFrame ⟨cmd.code, args⟩ s = .next (s.emit (.fault .nack)) := by
  rcases decode_cases ⟨cmd.code, args⟩ with ⟨hcode, _⟩ | ⟨c, hcode, _, hd⟩ | ⟨c, i, hcode, _, hargs, hd⟩ <;>
    cases (ofCode_code cmd).symm.trans hcode
  · simp [handleFrame, hd, rejectReply, hg]
  · simp only [handleFrame, hd, exec_eq_runCommand, commandOf_decodeArgs hargs, runCommand_of_refused hg]

/-- Settles O19: the code names a command, whose gate is the matrix. -/
theorem matrixRefusalIsNacked : Obligations.MatrixRefusalIsNacked := by
  rintro ⟨code, args⟩ s hc hm
  obtain ⟨cmd, rfl⟩ := mem_commandCodes_iff.1 hc
  exact handleFrame_of_refused ((gatePasses_eq_matrixRuns cmd _).trans hm)

/-- R139: an instruction the gate refuses. -/
theorem exec_of_refused {i : Instr} {s : State} (hg : gatePasses (commandOf i) s.ctrl = false) :
    exec i s = .next (s.replied nackFrame) :=
  (exec_eq_runCommand i s).trans (runCommand_of_refused hg)

/-- Settles O21: in each listed state the gate refuses the command. -/
theorem refusedInstructionsReplyNackOnly : Obligations.RefusedInstructionsReplyNackOnly := by
  intro s
  have refused : ∀ {k : Ctrl} (i : Instr), s.ctrl = k → gatePasses (commandOf i) k = false →
      exec i s = .next (s.replied nackFrame) := by
    rintro _ i rfl hg
    exact exec_of_refused hg
  refine ⟨?motion, fun h => ⟨refused _ h rfl, refused _ h rfl, refused _ h rfl⟩, ?configuration⟩
  case motion => rintro (h | h) <;> exact ⟨fun _ => refused _ h rfl, refused _ h rfl⟩
  case configuration => rintro (h | h | h) <;> exact ⟨refused _ h rfl, fun _ => refused _ h rfl⟩

/-! ### What each instruction can reply (R84, R138) -/

/-- The replies to each instruction a frame decodes to: to QUERY and ECHO the data of their own kind, to the others ACK
and FAULT only. -/
inductive Reply.Answers : Reply → Instr → Prop
  | ack (i : Instr) : Answers .ack i
  | fault (c : FaultCode) (i : Instr) : Answers (.fault c) i
  | model : Answers (.text .model Config.modelText) .queryModel
  | serial : Answers (.text .serial Config.serialText) .querySerial
  | firmware : Answers (.text .firmware Config.firmwareText) .queryFirmware
  | faults (f d1 d2 : Byte) : Answers (.data .faults [f, d1, d2]) .queryFaults
  | parameters (r : Settings) : Answers (.data .parameters (settingsImage r)) .queryParameters
  | position (p : I32) : Answers (.data .position (be32Bytes p)) .queryPosition
  | mode (c : Ctrl) : Answers (.data .mode [c.stateCode]) .queryMode
  | echo (d : List Byte) : Answers (.echo d) (.echo d)

/-- R201: the decoder gives the form with a free sub-code only for a sub-code outside R87. -/
theorem unlisted_of_decode {f : Frame} {sub : Byte} (h : decode f = .ok (.query sub)) :
    QuerySub.ofCode? sub = none := by
  have hframe : (⟨Command.query.code, [sub]⟩ : Frame) = f := encodeOfDecodeIsTheFrame f _ h
  rw [← hframe] at h
  have hq : decodeQuery sub = .query sub := by
    simpa [decode, ofCode_code, decodeArgs] using h
  cases hs : QuerySub.ofCode? sub with
  | none => rfl
  | some q => rw [decodeQuery, hs] at hq; cases q <;> cases hq

/-- R138: a rule replies to its own instruction. -/
theorem ruleOf_answers {i : Instr} {s s' : State} {r : Reply}
    (hquery : ∀ sub, i = .query sub → QuerySub.ofCode? sub = none) (h : ruleOf i s = .ok (s', r)) : r.Answers i := by
  cases i
  case updateParameters m =>
    rcases updateParametersRule_ok h with ⟨_, _, rfl⟩ | ⟨_, _, _, ⟨_, rfl⟩ | ⟨_, rfl⟩⟩ <;> constructor
  case reset =>
    rcases resetRule_ok h with ⟨_, _, rfl⟩ | ⟨_, _, _, c, _, rfl⟩ | ⟨_, _, _, rfl⟩ <;> constructor
  case queryFaults =>
    rcases faultsRule_ok h with ⟨_, _, c, _, rfl⟩ | ⟨_, hread⟩
    · exact .fault _ _
    · obtain ⟨_, rfl⟩ := Prod.mk.inj hread
      exact .faults _ _ _
  case query sub =>
    have hrule : queryRule sub = unknownSubRule := by simp only [queryRule, hquery sub rfl]
    rw [ruleOf, hrule] at h
    cases h
    exact .fault _ _
  all_goals (cases h; constructor)

/-- R134 to R138, R140: handling a frame leaves the loop's state and the codec alone but for one emission: a FAULT, or a
reply to the instruction decoded. -/
theorem handleFrame_reply {f : Frame} {s t : State} (h : handleFrame f s = .next t) :
    ∃ s' r, s.SameLoop s' ∧ t = s'.emit r ∧ ((∃ c, r = .fault c) ∨ ∃ i, decode f = .ok i ∧ r.Answers i) := by
  have untouched : s.SameLoop s := ⟨rfl, rfl, rfl, rfl, rfl, rfl⟩
  rcases handleFrame_next h with ⟨_, c, _, _, rfl⟩ | ⟨_, _, _, rfl⟩ | ⟨i, s', r, hd, _, hrule, rfl⟩
  · exact ⟨s, _, untouched, rfl, .inl ⟨_, rfl⟩⟩
  · exact ⟨s, _, untouched, rfl, .inl ⟨_, rfl⟩⟩
  · have answers : r.Answers i := ruleOf_answers (fun sub hi => unlisted_of_decode (hi ▸ hd)) hrule
    exact ⟨s', r, ruleOf_sameLoop hrule, rfl, .inr ⟨i, hd, answers⟩⟩

/-- R224: the frame of a reply, byte by byte. -/
theorem frame_eq (r : Reply) : r.frame = [0x3C, r.code.byte] ++ r.payload ++ [0x3E] := rfl

/-- R157: DONE replies to no frame. -/
theorem Reply.Answers.code_ne_done {r : Reply} {i : Instr} (h : r.Answers i) : r.code ≠ .done := by
  cases h <;> exact nofun

/-- R84: the codes of the replies other than DONE. -/
theorem byte_mem_of_ne_done {c : ReplyCode} (h : c ≠ .done) : c.byte ∈ ([0x41, 0x46, 0x45] : List Byte) := by
  cases c with
  | done => exact absurd rfl h
  | ack | fault | echo => decide

/-- Settles O23: the one emission of `handleFrame_reply`. -/
theorem everyHandledFrameGetsOneReply : Obligations.EveryHandledFrameGetsOneReply := by
  intro f s t h
  obtain ⟨s', r, same, rfl, hr⟩ := handleFrame_reply h
  have hcode : r.code ≠ .done := by
    rcases hr with ⟨c, rfl⟩ | ⟨i, _, answers⟩
    · exact nofun
    · exact answers.code_ne_done
  exact ⟨r.code.byte, r.payload, by rw [State.emit_frames, same.frames, frame_eq], byte_mem_of_ne_done hcode⟩

/-! ### The payload bound (R209, R226) -/

/-- R209: a text parameter is within R209's constraint, whatever the platform supplies. -/
theorem textOk_legalText (t : List Char) : Config.textOk (Config.legalText t) = true := by
  unfold Config.legalText
  split
  · assumption
  · rfl

/-- R223: a text has as many bytes as characters. -/
theorem length_asciiBytes_legalText (t : List Char) : (asciiBytes (Config.legalText t)).length ≤ 30 := by
  rw [asciiBytes, List.length_map]
  exact of_decide_eq_true (Bool.and_eq_true_iff.1 (textOk_legalText t)).1

/-- R226: every reply to an instruction fits, an ECHO as its arguments do. -/
theorem Reply.Answers.length_payload_le {r : Reply} {i : Instr} (h : r.Answers i)
    (hecho : ∀ d, i = .echo d → d.length ≤ 31) : r.payload.length ≤ 31 := by
  cases h with
  | ack | fault | faults | mode => simp [Reply.ack, Reply.fault, Reply.data]
  | model | serial | firmware => exact Nat.succ_le_succ (length_asciiBytes_legalText _)
  | parameters => simp [Reply.data, settingsImage, encodeImage, be16Bytes]
  | position => simp [Reply.data, be32Bytes]
  | echo d => exact hecho d rfl

/-- R78, R210: an ECHO that was decoded has at most 31 arguments. -/
theorem length_le_of_decode_echo {f : Frame} {d : List Byte} (h : decode f = .ok (.echo d)) : d.length ≤ 31 := by
  rcases decode_cases f with ⟨_, e⟩ | ⟨_, _, _, e⟩ | ⟨cmd, i, _, hlen, hargs, e⟩ <;> cases h.symm.trans e
  obtain rfl : Command.echo = cmd := commandOf_decodeArgs hargs
  obtain rfl : (⟨Command.echo.code, d⟩ : Frame) = f := encodeOfDecodeIsTheFrame f _ h
  exact of_decide_eq_true hlen

/-- R140, R226: handling a frame emits one reply, not DONE, within the bound. -/
theorem handleFrame_frames {f : Frame} {s t : State} (h : handleFrame f s = .next t) :
    ∃ r : Reply, t.frames = s.frames ++ [r.frame] ∧ r.code ≠ .done ∧ r.payload.length ≤ 31 := by
  obtain ⟨s', r, same, rfl, hr⟩ := handleFrame_reply h
  refine ⟨r, by rw [State.emit_frames, same.frames], ?_⟩
  rcases hr with ⟨c, rfl⟩ | ⟨i, hd, answers⟩
  · exact ⟨nofun, by simp [Reply.fault]⟩
  · exact ⟨answers.code_ne_done, answers.length_payload_le fun d hi => length_le_of_decode_echo (hi ▸ hd)⟩

/-- R64: the codec emits no frame. -/
theorem feed_frames {b : Byte} {s t : State} (h : feed b s = .ok t) : t.frames = s.frames := by
  rcases feed_ok h with rfl | rfl | ⟨r, rfl⟩ | ⟨_, _, rfl⟩ | ⟨_, _, _, rfl⟩ <;> simp

/-- R155, R156, R267: the Service phase emits nothing, one FAULT, or one DONE at the end of a motion. -/
theorem servicePhase_frames (s : State) :
    (servicePhase s).frames = s.frames ∨ (∃ c, (servicePhase s).frames = s.frames ++ [(Reply.fault c).frame]) ∨
      ((s.ctrl = .moving ∨ s.ctrl = .homing) ∧ (servicePhase s).ctrl = .idle ∧
        (servicePhase s).frames = s.frames ++ [Reply.done.frame]) := by
  rcases servicePhase_cases s with ⟨_, e⟩ | ⟨_, k, _, e⟩ | ⟨_, _, e⟩ | ⟨hc, _, e⟩ | ⟨hc, _, e⟩ <;> rw [e]
  · exact .inl (by simp)
  · exact .inr (.inl ⟨(causeOf k).code, by simp⟩)
  · exact .inl (by simp)
  · rcases motionCompletion_cases s.callPollFault with ⟨_, e'⟩ | ⟨_, e'⟩ <;> rw [e']
    · exact .inr (.inr ⟨.inl hc, by simp, by simp⟩)
    · exact .inl (by simp)
  · rcases homingCompletion_cases s.callPollFault with ⟨_, e'⟩ | ⟨_, e'⟩ | ⟨_, e'⟩ <;> rw [e']
    · exact .inl (by simp)
    · exact .inr (.inr ⟨.inr hc, by simp, by simp⟩)
    · exact .inr (.inl ⟨FaultCause.home.code, by simp⟩)

/-- R157, R226: what a step emits: nothing; one reply other than DONE, within the bound; or DONE at the end of a
motion. -/
theorem step_frames {s t : State} (h : step s = .next t) :
    t.frames = s.frames ∨
      (∃ r : Reply, t.frames = s.frames ++ [r.frame] ∧ r.code ≠ .done ∧ r.payload.length ≤ 31) ∨
      (s.phase = .service ∧ (s.ctrl = .moving ∨ s.ctrl = .homing) ∧ t.ctrl = .idle ∧
        t.frames = s.frames ++ [Reply.done.frame]) := by
  rcases step_next h with ⟨hp, rfl⟩ | ⟨_, _, rfl⟩ | ⟨_, b, q, _, hfeed⟩ | ⟨_, _, rfl⟩ | ⟨_, _, f, u, _, hu, rfl⟩
  · rcases servicePhase_frames s with e | ⟨c, e⟩ | ⟨hc, hidle, e⟩
    · exact .inl e
    · exact .inr (.inl ⟨.fault c, e, nofun, by simp [Reply.fault]⟩)
    · exact .inr (.inr ⟨hp, hc, hidle, e⟩)
  · exact .inl rfl
  · exact .inl ((feed_frames hfeed).trans s.dropRead_frames)
  · exact .inl rfl
  · obtain ⟨r, hframes, hr⟩ := handleFrame_frames hu
    exact .inr (.inl ⟨r, hframes, hr⟩)

/-- Settles O24: `step_frames`, with each reply's frame written out. -/
theorem emittedPayloadsFit : Obligations.EmittedPayloadsFit := by
  intro s t new h hnew fr hfr
  have written : ∀ r : Reply, r.payload.length ≤ 31 → new = [r.frame] → ∃ c payload,
      fr = [0x3C, c] ++ payload ++ [0x3E] ∧ payload.length ≤ 31 ∧ c ∈ ([0x41, 0x44, 0x46, 0x45] : List Byte) := by
    rintro r hr rfl
    refine ⟨r.code.byte, r.payload, List.mem_singleton.1 hfr, hr, ?_⟩
    cases r.code <;> decide
  rcases step_frames h with e | ⟨r, e, _, hr⟩ | ⟨_, _, _, e⟩ <;> rw [hnew] at e
  · rw [List.append_right_eq_self.1 e] at hfr; cases hfr
  · exact written r hr (List.append_cancel_left e)
  · exact written .done (by simp [Reply.done]) (List.append_cancel_left e)

/-- Settles O58: of the three forms of `step_frames`, only the last emits DONE. -/
theorem doneOnlyAtCompletion : Obligations.DoneOnlyAtCompletion := by
  intro s t new h hnew hdone
  rcases step_frames h with e | ⟨r, e, hcode, _⟩ | ⟨hp, hc, hidle, e⟩ <;> rw [hnew] at e
  · rw [List.append_right_eq_self.1 e] at hdone; cases hdone
  · rw [List.append_cancel_left e, List.mem_singleton] at hdone
    have hr : Reply.done = r := frame_injective hdone
    exact absurd (congrArg Reply.code hr).symm hcode
  · exact ⟨hp, hc, hidle, List.append_cancel_left e⟩

/-! ### Marker values in replies (R296) -/

/-- R209: no byte of a text parameter is a marker. -/
theorem asciiBytes_legalText_markerFree (t : List Char) :
    ∀ b ∈ asciiBytes (Config.legalText t), isMarker b = false := by
  intro b hb
  obtain ⟨c, hc, rfl⟩ := List.mem_map.1 hb
  have hok := List.all_eq_true.1 (Bool.and_eq_true_iff.1 (textOk_legalText t)).2 c hc
  simp only [Bool.and_eq_true, decide_eq_true_eq] at hok
  obtain ⟨⟨hascii, hstart⟩, hend⟩ := hok
  have markerAt : ∀ m : Byte, BitVec.ofNat 8 c.toNat = m → c.toNat = m.toNat := by
    rintro _ rfl
    rw [BitVec.toNat_ofNat]
    omega
  exact (isMarker_eq_false_iff _).2 ⟨fun e => hstart (markerAt _ e), fun e => hend (markerAt _ e)⟩

/-- R296: outside the three queries that reply raw bytes, a payload holds a marker value only as ECHO's arguments do. -/
theorem Reply.Answers.payload_markerFree {r : Reply} {i : Instr} (h : r.Answers i) (hposition : i ≠ .queryPosition)
    (hparameters : i ≠ .queryParameters) (hfaults : i ≠ .queryFaults)
    (hecho : ∀ d, i = .echo d → ∀ b ∈ d, isMarker b = false) : ∀ b ∈ r.payload, isMarker b = false := by
  obtain ⟨_, _, faultCode, subCode⟩ := codes_are_no_markers
  cases h with
  | ack => exact nofun
  | fault c => exact List.forall_mem_singleton.2 (faultCode c)
  | model | serial | firmware => exact List.forall_mem_cons.2 ⟨subCode _, asciiBytes_legalText_markerFree _⟩
  | faults => exact absurd rfl hfaults
  | parameters => exact absurd rfl hparameters
  | position => exact absurd rfl hposition
  | mode c => exact List.forall_mem_cons.2 ⟨subCode _, List.forall_mem_singleton.2 (by cases c <;> decide)⟩
  | echo d => exact hecho d rfl

/-- Settles O25: the reply code is no marker, and ECHO's arguments are the frame's. -/
theorem onlyThreeQueriesCanReplyAMarker : Obligations.OnlyThreeQueriesCanReplyAMarker := by
  intro f s t reply hargs h hposition hparameters hfaults hreply
  obtain ⟨_, replyCode, faultCode, _⟩ := codes_are_no_markers
  obtain ⟨s', r, same, rfl, hr⟩ := handleFrame_reply h
  have hframe : reply = r.frame := by
    rw [State.emit_frames, same.frames, List.append_cancel_left_eq, List.singleton_inj] at hreply
    exact hreply.symm
  refine ⟨r.code.byte, r.payload, hframe, List.forall_mem_cons.2 ⟨replyCode _, ?_⟩⟩
  rcases hr with ⟨c, rfl⟩ | ⟨i, hd, answers⟩
  · exact List.forall_mem_singleton.2 (faultCode c)
  · refine answers.payload_markerFree ?_ ?_ ?_ ?_
    · rintro rfl; exact hposition hd
    · rintro rfl; exact hparameters hd
    · rintro rfl; exact hfaults hd
    · rintro d rfl
      obtain rfl : (⟨Command.echo.code, d⟩ : Frame) = f := encodeOfDecodeIsTheFrame f _ hd
      exact hargs

end Sys2Proof.Machine
end

section
/-! PROOFS. The invariants (10_state.md R22, R26, R27): every step keeps them and from them no step stops (R248), so
neither does any schedule of the host and the core (R240), and one iteration on any queued bytes ends quiescent (R247). -/

namespace Sys2Proof.Machine

/-! ### The controller's part: the enable line and the latch (R26, R27) -/

/-- R26 and R27 together. -/
abbrev State.ControlInv (s : State) : Prop := s.EnableInv ∧ s.LatchInv

/-- R26, R27: both read the controller's record only. -/
theorem State.SameControl.controlInv {s t : State} (same : s.SameControl t) (h : s.ControlInv) : t.ControlInv := by
  simpa only [State.ControlInv, State.EnableInv, State.LatchInv, same.ctrl, same.cause, same.drvEn] using h

/-- R266: whatever the enable line, Faulted with a cause is a good state. -/
theorem State.controlInv_of_faulted {s : State} {c : FaultCause} (hctrl : s.ctrl = .faulted)
    (hcause : s.cause = some c) : s.ControlInv := by
  simp [State.ControlInv, State.EnableInv, State.LatchInv, hctrl, hcause]

/-- R155, R156: the end of a motion, with the line and the latch as they were. -/
theorem State.controlInv_of_motion_end {s t : State} (h : s.ControlInv) (hmotion : s.ctrl = .moving ∨ s.ctrl = .homing)
    (hctrl : t.ctrl = .idle) (hline : t.drvEn = s.drvEn) (hcause : t.cause = s.cause) : t.ControlInv := by
  obtain ⟨⟨hon, _⟩, hlatch⟩ := h
  have hdrvEn : s.drvEn = true := hon (.inr hmotion)
  have hnone : s.cause = none := by
    by_contra hlatched
    exact absurd (hlatch.1 hlatched) (by rcases hmotion with hc | hc <;> rw [hc] <;> decide)
  simp [State.ControlInv, State.EnableInv, State.LatchInv, hctrl, hline, hcause, hdrvEn, hnone]

/-- R236: the Service phase keeps both. -/
theorem servicePhase_controlInv {s : State} (h : s.ControlInv) : (servicePhase s).ControlInv := by
  rcases servicePhase_cases s with ⟨_, e⟩ | ⟨_, k, _, e⟩ | ⟨_, _, e⟩ | ⟨hc, _, e⟩ | ⟨hc, _, e⟩ <;> rw [e]
  · exact h
  · exact State.controlInv_of_faulted rfl rfl
  · exact h
  · rcases motionCompletion_cases s.callPollFault with ⟨_, e'⟩ | ⟨_, e'⟩ <;> rw [e']
    · exact State.controlInv_of_motion_end h (.inl hc) rfl rfl rfl
    · exact h
  · rcases homingCompletion_cases s.callPollFault with ⟨_, e'⟩ | ⟨_, e'⟩ | ⟨_, e'⟩ <;> rw [e']
    · exact h
    · exact State.controlInv_of_motion_end h (.inr hc) rfl rfl rfl
    · exact State.controlInv_of_faulted rfl rfl

/-- R26, R27: every step keeps both. -/
theorem step_controlInv {s t : State} (h : s.ControlInv) (hstep : step s = .next t) : t.ControlInv := by
  rcases step_control hstep with rfl | same | ⟨i, s', r, _, hg, hrule, same⟩
  · exact servicePhase_controlInv h
  · exact same.controlInv h
  · obtain ⟨henable, hlatch⟩ := h
    exact same.controlInv (ruleOf_keeps_latch (s := s.releaseFrame) henable hlatch hg hrule)

/-! ### Every step keeps the invariants -/

/-- R22: every step keeps the codec's part. Only `feed` and `take_frame` write there. -/
theorem step_codecInv {s t : State} (h : s.CodecInv) (hstep : step s = .next t) : t.CodecInv := by
  rcases step_next hstep with ⟨_, rfl⟩ | ⟨_, _, rfl⟩ | ⟨_, b, q, _, hfeed⟩ | ⟨_, _, rfl⟩ | ⟨_, _, f, u, _, hu, rfl⟩
  · obtain ⟨hrx, hbuf, _⟩ := servicePhase_keeps s
    exact h.congr hrx hbuf
  · exact h
  · exact feed_codecInv (s := s.dropRead) h hfeed
  · exact h
  · obtain ⟨s', r, same, rfl, _⟩ := handleFrame_reply hu
    have released : s.releaseFrame.CodecInv := by simp [State.CodecInv]
    exact released.congr same.rxState same.buf

/-- Settles O3: the codec's part and the controller's, each kept on its own. -/
theorem everyStepKeepsTheInvariants : Obligations.EveryStepKeepsTheInvariants :=
  fun _ _ ⟨hcodec, hcontrol⟩ hstep => ⟨step_codecInv hcodec hstep, step_controlInv hcontrol hstep⟩

/-- Settles O2: at reset the buffer is empty, the line off, the controller Disabled and no cause latched. -/
theorem invariantsHoldAtReset : Obligations.InvariantsHoldAtReset := by
  have hcodec : State.reset.CodecInv := ⟨fun _ => rfl, nofun, Nat.zero_le _, nofun⟩
  have henable : State.reset.EnableInv := ⟨by decide, fun _ => rfl⟩
  have hlatch : State.reset.LatchInv := ⟨fun h => absurd rfl h, nofun⟩
  exact ⟨hcodec, henable, hlatch⟩

/-! ### No step stops (R248) -/

/-- R133 to R138: where Faulted has a cause, every frame is answered. -/
theorem handleFrame_total {s : State} (hl : s.LatchInv) (f : Frame) : ∃ t, handleFrame f s = .next t := by
  rcases decode_cases f with ⟨hcode, _⟩ | ⟨cmd, _, _, hd⟩ | ⟨cmd, i, _, _, _, hd⟩
  · exact ⟨_, handleFrame_of_unknown s hcode⟩
  · exact ⟨s.emit (.fault (if gatePasses cmd s.ctrl then .invalidParameters else .nack)),
      by simp only [handleFrame, hd, rejectReply]⟩
  · have hrun : handleFrame f s = exec i s := by simp only [handleFrame, hd]
    cases hg : gatePasses (commandOf i) s.ctrl with
    | false => exact ⟨_, hrun.trans (exec_of_refused hg)⟩
    | true =>
      obtain ⟨s', r, hrule⟩ := ruleOf_total hl i
      exact ⟨_, hrun.trans (exec_of_passes hg hrule)⟩

/-- R235: the step of the Service phase. -/
theorem step_of_service {s : State} (hp : s.phase = .service) : step s = .next (servicePhase s) := by
  simp only [step, hp]

/-- R237: the step that finds the queue empty. -/
theorem step_of_queue_empty {s : State} (hp : s.phase = .ingest) (hq : s.rxQ = []) :
    step s = .next (s.setPhase .dispatch) := by
  simp only [step, hp, ingestStep, hq]

/-- R237: the step that reads a byte. -/
theorem step_of_byte {s t : State} {b : Byte} {q : List Byte} (hp : s.phase = .ingest) (hq : s.rxQ = b :: q)
    (h : feed b s.dropRead = .ok t) : step s = .next t := by
  simp only [step, hp, ingestStep, hq, h]

/-- R238: the step that finds no frame Pending. -/
theorem step_of_no_frame {s : State} (hp : s.phase = .dispatch) (hr : s.rxState ≠ .pending) :
    step s = .next (s.setPhase .service) := by
  simp only [step, hp, dispatchPhase, takeFrame_of_not_pending hr, toService]

/-- R109, R238: the step that takes a frame handles it and ends the iteration. -/
theorem step_of_frame {s : State} {f : Frame} (hp : s.phase = .dispatch) (hr : s.rxState = .pending)
    (hb : s.buf = f.bytes) : step s = toService (handleFrame f s.releaseFrame) := by
  simp only [step, hp, dispatchPhase, takeFrame_of_pending f hr hb]

/-- Settles O4: in each phase, what could stop the step is shut out by its part of the invariants. -/
theorem everyStepHasASuccessor : Obligations.EveryStepHasASuccessor := by
  rintro s ⟨hcodec, _, hlatch⟩
  cases hp : s.phase with
  | service => exact ⟨_, step_of_service hp⟩
  | ingest =>
    cases hq : s.rxQ with
    | nil => exact ⟨_, step_of_queue_empty hp hq⟩
    | cons b q =>
      obtain ⟨t, hfeed⟩ := feed_total (s := s.dropRead) hcodec b
      exact ⟨t, step_of_byte hp hq hfeed⟩
  | dispatch =>
    by_cases hr : s.rxState = .pending
    · obtain ⟨_, hnonempty, _⟩ := hcodec
      obtain ⟨c, args, hb⟩ := List.exists_cons_of_length_pos (hnonempty hr)
      obtain ⟨u, hu⟩ := handleFrame_total (s := s.releaseFrame) hlatch ⟨c, args⟩
      exact ⟨u.setPhase .service, by rw [step_of_frame (f := ⟨c, args⟩) hp hr hb, hu]; rfl⟩
    · exact ⟨_, step_of_no_frame hp hr⟩

/-! ### Runs (R240, R247) -/

/-- R240, R245: a turn of the core or of the host goes on in a good state. -/
theorem turn_keeps_inv {s : State} (h : s.Inv) (turn : Turn) : ∃ t, s.turn turn = .next t ∧ t.Inv := by
  cases turn with
  | core =>
    obtain ⟨t, hstep⟩ := everyStepHasASuccessor s h
    exact ⟨t, hstep, everyStepKeepsTheInvariants s t h hstep⟩
  | host b => exact ⟨s.hostAppend b, rfl, h⟩

/-- Settles O6: by induction on the schedule, `turn_keeps_inv` at each turn. -/
theorem everyScheduleKeepsTheInvariants : Obligations.EveryScheduleKeepsTheInvariants := by
  intro turns
  induction turns with
  | nil => exact fun s h => ⟨s, rfl, h⟩
  | cons turn turns ih =>
    intro s h
    obtain ⟨u, hturn, hu⟩ := turn_keeps_inv h turn
    obtain ⟨t, hrun, ht⟩ := ih u hu
    exact ⟨t, by simpa only [runSchedule, hturn] using hrun, ht⟩

/-- R109, R238: after a Dispatch step no frame is Pending, and the queue is as it was. -/
theorem step_dispatch_leaves {s t : State} (hp : s.phase = .dispatch) (hstep : step s = .next t) :
    t.phase = .service ∧ t.rxState ≠ .pending ∧ t.rxQ = s.rxQ := by
  rcases step_next hstep with ⟨hp', _⟩ | ⟨hp', _⟩ | ⟨hp', _⟩ | ⟨_, hr, rfl⟩ | ⟨_, _, f, u, _, hu, rfl⟩
  · cases hp.symm.trans hp'
  · cases hp.symm.trans hp'
  · cases hp.symm.trans hp'
  · exact ⟨rfl, hr, rfl⟩
  · obtain ⟨s', r, same, rfl, _⟩ := handleFrame_reply hu
    have waiting : s'.rxState = .waiting := same.rxState
    exact ⟨rfl, by simp [waiting], same.rxQ⟩

/-- Settles O52: Service, then one Ingest step a byte and one for the empty queue (`run_ingest`), then Dispatch. -/
theorem iterationReachesAQuiescentPoint : Obligations.IterationReachesAQuiescentPoint := by
  intro s h hp
  obtain ⟨_, _, hq, _, hphase, _⟩ := servicePhase_keeps s
  obtain ⟨hcodec, hcontrol⟩ : (servicePhase s).Inv := everyStepKeepsTheInvariants s _ h (step_of_service hp)
  obtain ⟨u, hfed, hcodec', same, hempty⟩ := feedAll_total s.rxQ (s := { servicePhase s with rxQ := [] }) hcodec
  have hu : (u.setPhase .dispatch).Inv := ⟨hcodec', same.controlInv hcontrol⟩
  obtain ⟨t, hstep⟩ := everyStepHasASuccessor _ hu
  obtain ⟨hservice, hnoFrame, hkept⟩ := step_dispatch_leaves rfl hstep
  refine ⟨t, ?_, ⟨hservice, hkept.trans hempty, hnoFrame⟩, everyStepKeepsTheInvariants _ t hu hstep⟩
  calc Host.Core.run Sys2Proof.core (s.rxQ.length + 3) s
      = Host.Core.run Sys2Proof.core (s.rxQ.length + 2) (servicePhase s) := core_run_succ _ (step_of_service hp)
    _ = Host.Core.run Sys2Proof.core (1 + (s.rxQ.length + 1)) (servicePhase s) := by rw [Nat.add_comm 1]
    _ = Host.Core.run Sys2Proof.core 1 (u.setPhase .dispatch) := run_ingest 1 hphase hq hfed
    _ = .next t := core_run_succ 0 hstep

end Sys2Proof.Machine
end

section
/-! PROOFS. The commands (42_commands_motion.md, 43_commands_control.md, 44_commands_query_echo.md): where the gate lets
one through it answers its rule's state and reply, and what that state is field by field. -/

namespace Sys2Proof.Machine

/-- R20: a state is its elements. -/
theorem State.ext {s t : State} (rxState : s.rxState = t.rxState) (buf : s.buf = t.buf) (ctrl : s.ctrl = t.ctrl)
    (phase : s.phase = t.phase) (drvEn : s.drvEn = t.drvEn) (cause : s.cause = t.cause)
    (settings : s.settings = t.settings) (history : s.history = t.history) (rxQ : s.rxQ = t.rxQ)
    (oracle : s.oracle = t.oracle) : s = t := by
  cases s; cases t; simp_all

/-! ### Where the gate lets each command through (R135, R136, R141) -/

theorem gatePasses_of_enabled {c : Ctrl} (h : c = .idle ∨ c = .moving ∨ c = .homing) :
    gatePasses .goto c = true ∧ gatePasses .home c = true := by
  rcases h with rfl | rfl | rfl <;> decide

theorem gatePasses_of_at_rest {c : Ctrl} (h : c = .idle ∨ c = .disabled) :
    gatePasses .resetPosition c = true ∧ gatePasses .updateParameters c = true := by
  rcases h with rfl | rfl <;> decide

theorem gatePasses_of_ne_faulted {c : Ctrl} (h : c ≠ .faulted) :
    gatePasses .stop c = true ∧ gatePasses .enable c = true ∧ gatePasses .disable c = true := by
  cases c with
  | faulted => exact absurd rfl h
  | idle | moving | homing | disabled => decide

theorem gatePasses_reset (c : Ctrl) : gatePasses .reset c = true := by cases c <;> decide

/-! ### Motion commands (R151 to R154) -/

/-- One call, one write of the controller state, one reply. -/
theorem emit_setCtrl_call (s : State) (c : Call) (k : Ctrl) (r : Reply) :
    ((s.call c).setCtrl k).emit r = { s with ctrl := k, history := s.history ++ [.call c, .sent r.frame] } := by
  apply State.ext <;> simp

/-- Settles O26: GOTO's rule, let through. -/
theorem gotoForwardsTheTarget : Obligations.GotoForwardsTheTarget := by
  intro s target h
  obtain ⟨hg, _⟩ := gatePasses_of_enabled h
  exact (exec_of_passes (i := .goto target) hg rfl).trans (congrArg _ (emit_setCtrl_call s _ _ _))

/-- Settles O28: HOME's rule, let through. -/
theorem homeStartsHoming : Obligations.HomeStartsHoming := by
  intro s h
  obtain ⟨_, hg⟩ := gatePasses_of_enabled h
  exact (exec_of_passes (i := .home) hg rfl).trans (congrArg _ (emit_setCtrl_call s _ _ _))

/-- R152: STOP outside Faulted, its next controller state left as the rule has it. -/
theorem exec_stop {s : State} (h : s.ctrl ≠ .faulted) :
    exec .stop s = .next { s with
      ctrl := if s.ctrl == .idle || s.ctrl == .moving || s.ctrl == .homing then .idle else s.ctrl
      history := s.history ++ [.call .stop, .sent ackFrame] } := by
  obtain ⟨hg, _⟩ := gatePasses_of_ne_faulted h
  exact (exec_of_passes (i := .stop) hg rfl).trans (congrArg _ (emit_setCtrl_call s _ _ _))

/-- Settles O27: `exec_stop` in each state. -/
theorem stopEndsTheMotionIntent : Obligations.StopEndsTheMotionIntent := by
  intro s
  constructor
  · rintro (h | h | h) <;> rw [exec_stop (by simp [h])] <;> simp [h]
  · intro h
    rw [exec_stop (by simp [h])]
    simp [h]

/-- R154: one call and one reply. -/
theorem emit_call (s : State) (c : Call) (r : Reply) :
    (s.call c).emit r = { s with history := s.history ++ [.call c, .sent r.frame] } :=
  emit_setCtrl_call s c s.ctrl r

/-- Settles O29: RESET_POSITION's rule, let through. -/
theorem resetPositionOnlyZeroesTheReference : Obligations.ResetPositionOnlyZeroesTheReference := by
  intro s h
  obtain ⟨hg, _⟩ := gatePasses_of_at_rest h
  exact (exec_of_passes (i := .resetPosition) hg rfl).trans (congrArg _ (emit_call s _ _))

/-! ### RESET (R172) -/

/-- R155, R156: the two states with a motion intent. -/
theorem inMotion_iff (s : State) : s.inMotion = true ↔ s.ctrl = .moving ∨ s.ctrl = .homing := by
  simp [State.inMotion]

/-- R172: RESET runs in every state. -/
theorem exec_reset {s s' : State} {r : Reply} (h : resetRule s = .ok (s', r)) : exec .reset s = .next (s'.emit r) :=
  exec_of_passes (i := .reset) (gatePasses_reset _) h

/-- R172: a clear that succeeds ends the same way whether or not a cause was latched. -/
theorem resetRule_of_clear {s : State} (h : s.nextClearFaults = true) :
    resetRule s = .ok (clearSucceeded s.callClearFaults, .ack) := by
  unfold resetRule
  rw [h]
  exact ite_self _

/-- R172: a clear that fails while Faulted reports the cause that stays latched. -/
theorem resetRule_of_fail_faulted {s : State} {c : FaultCause} (h : s.nextClearFaults = false) (hf : s.ctrl = .faulted)
    (hc : s.cause = some c) : resetRule s = .ok (s.callClearFaults, .fault c.code) := by
  simp [resetRule, State.isFaulted, State.causeReply, h, hf, hc, Except.map]

/-- R172: a clear that fails elsewhere latches DRIVER. -/
theorem resetRule_of_fail {s : State} (h : s.nextClearFaults = false) (hf : s.ctrl ≠ .faulted) :
    resetRule s = .ok (s.callClearFaults.enterFault .driver, .fault .driver) := by
  simp [resetRule, State.isFaulted, h, hf]

/-- R172, R272: what a clear that succeeds leaves, a motion in progress stopped. -/
theorem clearSucceeded_eq (s : State) :
    clearSucceeded s = { s with
      cause := none
      ctrl := if s.drvEn then .idle else .disabled
      history := s.history ++ if s.ctrl = .moving ∨ s.ctrl = .homing then [.call .stop] else [] } := by
  unfold clearSucceeded
  split
  · next hm => rw [if_pos ((inMotion_iff s).1 hm)]; rfl
  · next hm => rw [if_neg (mt (inMotion_iff s).2 hm), List.append_nil]; rfl

/-- Settles O30: `resetRule_of_clear`, with the state it leaves. -/
theorem successfulResetClearsTheLatch : Obligations.SuccessfulResetClearsTheLatch := by
  intro s h
  rw [exec_reset (resetRule_of_clear h), clearSucceeded_eq, State.callClearFaults_history, h]
  rfl

/-- R86, R263: a latched cause as the frame that reports it. -/
theorem frame_cause (c : FaultCause) : (Reply.fault c.code).frame = causeFrame c := by cases c <;> rfl

/-- Settles O31: the two ways a clear fails. -/
theorem failedResetReportsOrLatches : Obligations.FailedResetReportsOrLatches := by
  intro s h
  refine ⟨fun c hf hc => ?reports, fun hf => ?latches⟩
  case reports =>
    rw [exec_reset (resetRule_of_fail_faulted h hf hc)]
    refine congrArg _ ?_
    apply State.ext <;> simp [h, frame_cause]
  case latches =>
    rw [exec_reset (resetRule_of_fail h hf)]
    refine congrArg _ ?_
    apply State.ext <;> simp [h, frame_fault, FaultCode.byte]

/-! ### ENABLE and DISABLE (R175, R176) -/

/-- R175: ENABLE outside Faulted, its next controller state left as the rule has it. -/
theorem exec_enable {s : State} (h : s.ctrl ≠ .faulted) :
    exec .enable s = .next { s with
      ctrl := if s.ctrl == .idle || s.ctrl == .disabled then .idle else s.ctrl
      drvEn := true
      history := s.history ++ [.call .enable, .sent ackFrame] } := by
  obtain ⟨_, hg, _⟩ := gatePasses_of_ne_faulted h
  refine (exec_of_passes (i := .enable) hg rfl).trans (congrArg _ ?_)
  apply State.ext <;> simp [frame_ack]

/-- Settles O32: `exec_enable` in each state. -/
theorem enableDrivesTheLineOn : Obligations.EnableDrivesTheLineOn := by
  intro s
  constructor <;> rintro (h | h) <;> rw [exec_enable (by simp [h])] <;> simp [h]

/-- R176: DISABLE outside Faulted, its call of `stop` left as the rule has it. -/
theorem exec_disable {s : State} (h : s.ctrl ≠ .faulted) :
    exec .disable s = .next { s with
      ctrl := .disabled
      drvEn := false
      history := s.history ++ ((if s.inMotion then [.call .stop] else []) ++ [.call .disable, .sent ackFrame]) } := by
  obtain ⟨_, _, hg⟩ := gatePasses_of_ne_faulted h
  refine (exec_of_passes (i := .disable) hg rfl).trans (congrArg _ ?_)
  cases s.inMotion <;> apply State.ext <;> simp [frame_ack]

/-- Settles O33: `exec_disable` in each state. -/
theorem disableDrivesTheLineOff : Obligations.DisableDrivesTheLineOff := by
  intro s
  constructor <;> rintro (h | h) <;> rw [exec_disable (by simp [h])] <;> simp [State.inMotion, h]

/-! ### UPDATE_PARAMETERS (R177 to R183) -/

/-- R177, R179: the record written and the three setters called, in order. -/
theorem afterSetters_history (m : SettingsImage) (s : State) :
    (afterSetters m s).history = s.history ++ [Event.call (.setCurrent (decodeSettings m).runCurrent),
      Event.call (.setMicrostep (decodeSettings m).microstep),
      Event.call (.setSpeedLimits m.topSpeed m.acceleration)] := by
  simp [afterSetters, applySettings, decodeSettings]

/-- The setters draw no answer. -/
theorem afterSetters_oracle (m : SettingsImage) (s : State) : (afterSetters m s).oracle = s.oracle := rfl

theorem polled_history (s : State) (n : Nat) (a : Bool) :
    (s.polled n a).history = s.history ++ (List.replicate n (Event.call (.verifySettingsCommitted false)) ++
      [Event.call (.verifySettingsCommitted a)]) := rfl

theorem polled_oracle (s : State) (n : Nat) (a : Bool) :
    (s.polled n a).oracle =
      { s.oracle with verify := s.oracle.verify.drop (n + 1), draws := s.oracle.draws + (n + 1) } := rfl

/-- R177: a legal image is written, applied and verified, in Idle and Disabled. -/
theorem exec_update_of_valid {s t : State} {m : SettingsImage} {a : Bool} (h : s.ctrl = .idle ∨ s.ctrl = .disabled)
    (hv : validate m = true) (hp : verifyApplied (afterSetters m s) = (a, t)) :
    exec (.updateParameters m) s =
      .next (if a then t.emit .ack else (t.enterFault .driverSync).emit (.fault .driverSync)) := by
  obtain ⟨_, hg⟩ := gatePasses_of_at_rest h
  have hrule : updateParametersRule m s = .ok (finishUpdate (a, t)) :=
    (if_pos hv).trans (congrArg (fun v => Except.ok (finishUpdate v)) hp)
  cases a <;> exact exec_of_passes (i := .updateParameters m) hg hrule

/-- Settles O34: the verify loop ends on its first true answer. -/
theorem updateWritesAppliesAndVerifies : Obligations.UpdateWritesAppliesAndVerifies := by
  intro s m n h hv hn hfalse htrue
  have hp : verifyApplied (afterSetters m s) = (true, (afterSetters m s).polled n true) :=
    verifyLoop_of_true hn hfalse htrue
  rw [exec_update_of_valid h hv hp, if_pos rfl]
  refine congrArg _ ?_
  apply State.ext <;> simp [polled_history, polled_oracle, afterSetters_history, afterSetters_oracle, frame_ack]

/-- Settles O35: the verify loop gives up after ten. -/
theorem updateVerifyTimeoutLatchesDriverSync : Obligations.UpdateVerifyTimeoutLatchesDriverSync := by
  intro s m h hv hfalse
  have hp : verifyApplied (afterSetters m s) = (false, (afterSetters m s).polled 9 false) :=
    verifyLoop_of_false (k := 9) hfalse
  have hten : List.replicate 10 (Event.call (.verifySettingsCommitted false)) =
      List.replicate 9 (.call (.verifySettingsCommitted false)) ++ [.call (.verifySettingsCommitted false)] :=
    List.replicate_succ'
  rw [exec_update_of_valid h hv hp, if_neg Bool.false_ne_true, hten]
  refine congrArg _ ?_
  apply State.ext <;>
    simp [polled_history, polled_oracle, afterSetters_history, afterSetters_oracle, frame_fault, FaultCode.byte]

/-- R182: an image with a field out of range is one that `validate` refuses. -/
theorem validate_eq_false {m : SettingsImage} (h : 0x0F < m.runCurrent ∨ 0x0F < m.sleepCurrent ∨ 0x0F < m.microstep ∨
    m.flags.getLsbD 6 = true ∨ m.flags.getLsbD 7 = true) : validate m = false := by
  refine Bool.eq_false_iff.2 fun hv => ?_
  obtain ⟨hrun, hsleep, hmicro, h6, h7⟩ := (validateAcceptsExactlyTheLegalImages m).1 hv
  rcases h with h | h | h | h | h
  · exact absurd h (BitVec.not_lt.2 hrun)
  · exact absurd h (BitVec.not_lt.2 hsleep)
  · exact absurd h (BitVec.not_lt.2 hmicro)
  · exact absurd (h6.symm.trans h) Bool.false_ne_true
  · exact absurd (h7.symm.trans h) Bool.false_ne_true

/-- Settles O36: such an image is refused before anything is written. -/
theorem illegalImageIsRefusedWhole : Obligations.IllegalImageIsRefusedWhole := by
  intro s m h hm
  obtain ⟨_, hg⟩ := gatePasses_of_at_rest h
  have hrule : updateParametersRule m s = .ok (s, .fault .invalidParameters) :=
    if_neg (by simp [validate_eq_false hm])
  exact exec_of_passes (i := .updateParameters m) hg hrule

/-! ### The queries (R200 to R207) -/

/-- R205: QUERY(FAULTS) while Faulted. -/
theorem faultsRule_of_faulted {s : State} {c : FaultCause} (hf : s.ctrl = .faulted) (hc : s.cause = some c) :
    faultsRule s = .ok (s, .fault c.code) := by
  simp [faultsRule, State.isFaulted, State.causeReply, hf, hc, Except.map]

/-- R205: QUERY(FAULTS) elsewhere. -/
theorem faultsRule_of_ne_faulted {s : State} (hf : s.ctrl ≠ .faulted) : faultsRule s = .ok (readFaultRegisters s) := by
  simp [faultsRule, State.isFaulted, hf]

/-- Settles O38: the two branches of the rule. -/
theorem faultsQueryRepliesCauseOrRegisters : Obligations.FaultsQueryRepliesCauseOrRegisters := by
  intro s
  refine ⟨fun c hf hc => ?cause, ?registers⟩
  case cause =>
    rw [exec_of_query (i := .queryFaults) rfl (faultsRule_of_faulted hf hc), State.emit, frame_cause]
  case registers =>
    rintro hf _ _ _ rfl rfl rfl
    refine (exec_of_query (i := .queryFaults) rfl (faultsRule_of_ne_faulted hf)).trans (congrArg _ ?_)
    apply State.ext <;> simp [frame_data, QuerySub.code]

/-- R206: QUERY(PARAMETERS) replies the image of the settings. -/
theorem exec_queryParameters (s : State) :
    exec .queryParameters s = .next (s.replied ([0x3C, 0x41, 0x50] ++ settingsImage s.settings ++ [0x3E])) :=
  exec_of_query (i := .queryParameters) rfl rfl

/-- Settles O39: `exec_queryParameters`, with the image's ten bytes in order. -/
theorem parametersQueryRepliesTheImage : Obligations.ParametersQueryRepliesTheImage := by
  intro s
  rw [exec_queryParameters]
  simp [settingsImage, encodeImage, imageOf]

/-- Settles O40: the bytes of an integer assembled from four bytes are those four. -/
theorem positionQueryRepliesAFreshPosition : Obligations.PositionQueryRepliesAFreshPosition := by
  intro s b0 b1 b2 b3 h
  have hbytes : be32Bytes s.nextCurrentPosition = [b0, b1, b2, b3] := h ▸ be32Bytes_be32s b0 b1 b2 b3
  refine (exec_of_query (i := .queryPosition) rfl rfl).trans (congrArg _ ?_)
  rw [hbytes]
  apply State.ext <;> simp [frame_data, QuerySub.code, h]

/-- R87, R201: the bytes of the table are the sub-codes there are. -/
theorem subOfCode_eq_none {sub : Byte} (h : sub ∉ ([0x4D, 0x53, 0x56, 0x46, 0x50, 0x58, 0x4F] : List Byte)) :
    QuerySub.ofCode? sub = none := by
  refine Option.eq_none_iff_forall_ne_some.2 fun q hq => ?_
  obtain rfl := subCode_of_ofCode hq
  exact h (by cases q <;> decide)

/-- Settles O42: each listed byte selects its sub-form's rule, and no other byte selects one. -/
theorem querySelectsBySubCode : Obligations.QuerySelectsBySubCode := by
  intro s
  refine ⟨rfl, rfl, rfl, rfl, rfl, rfl, rfl, fun sub h => ?_⟩
  have hrule : queryRule sub = unknownSubRule := by simp only [queryRule, subOfCode_eq_none h]
  exact exec_of_query (i := .query sub) rfl (by rw [ruleOf, hrule]; rfl)

/-- R177: an UPDATE_PARAMETERS whose last event is ACK had a legal image, and has written its record. -/
theorem update_acked {s t : State} {m : SettingsImage} (h : exec (.updateParameters m) s = .next t)
    (hlast : t.history.getLast? = some (.sent ackFrame)) : validate m = true ∧ t.settings = decodeSettings m := by
  have acked : ∀ {s' : State} {r : Reply}, t = s'.emit r → r = .ack := by
    rintro s' r rfl
    rw [getLast_emit_history, Option.some.injEq, Event.sent.injEq] at hlast
    exact frame_injective hlast
  rw [exec_eq_runCommand] at h
  rcases runCommand_next h with ⟨_, ht⟩ | ⟨_, s', r, hrule, ht⟩
  · cases acked ht
  · obtain rfl := acked ht
    rcases updateParametersRule_ok hrule with ⟨_, _, hr⟩ | ⟨hv, n, _, ⟨rfl, _⟩ | ⟨_, hr⟩⟩
    · cases hr
    · exact ⟨hv, by rw [ht]; rfl⟩
    · cases hr

/-- Settles O45: the record written is that of the image, and a legal image comes back from its record. -/
theorem acceptedImageIsReadBack : Obligations.AcceptedImageIsReadBack := by
  intro s t m h hlast
  obtain ⟨hv, hsettings⟩ := update_acked h hlast
  rw [exec_queryParameters, hsettings, settingsImage, imageOf_decodeSettings hv]

end Sys2Proof.Machine
end

section
/-! PROOFS. The control loop (46_control_loop.md): what a Service phase does in each state (R236), what the Ingest and
Dispatch phases do with a queued frame (R237, R238), who writes the enable line (R25), that the logs only grow (R31), and
where the model stops by name (R248). -/

namespace Sys2Proof.Machine

/-! ### The phases in turn (R235) -/

/-- Settles O46: each form of a step names the phase it leaves to. -/
theorem phasesCycle : Obligations.PhasesCycle := by
  intro s t h
  rcases step_next h with ⟨hp, rfl⟩ | ⟨hp, hq, rfl⟩ | ⟨hp, b, q, hq, hfeed⟩ | ⟨hp, _, rfl⟩ | ⟨hp, _, f, u, _, _, rfl⟩
  · obtain ⟨_, _, _, _, hphase, _⟩ := servicePhase_keeps s
    simp [hp, hphase]
  · simp [hp, hq]
  · obtain ⟨_, hphase⟩ := feed_keeps_loop hfeed
    simp [hp, hq, hphase]
  · simp [hp]
  · simp [hp]

/-! ### The Service phase (R236) -/

/-- R236: a fault polled is latched and reported, and the completion checks find nothing in motion. -/
theorem servicePhase_of_polled {s : State} {k : PollFault} (hc : s.ctrl ≠ .faulted) (hk : s.nextPollFault = some k) :
    servicePhase s = (s.callPollFault.faultProactively (causeOf k)).setPhase .ingest := by
  rcases servicePhase_cases s with ⟨hf, _⟩ | ⟨_, j, hj, e⟩ | ⟨_, hnone, _⟩ | ⟨_, hnone, _⟩ | ⟨_, hnone, _⟩
  · exact absurd hf hc
  · cases hk.symm.trans hj; exact e
  all_goals cases hk.symm.trans hnone

/-- R236: no fault polled, the completion check of the state follows. -/
theorem servicePhase_of_not_polled {s : State} (hc : s.ctrl ≠ .faulted) (hk : s.nextPollFault = none) :
    servicePhase s = (completionChecks s.callPollFault).setPhase .ingest := by
  simp [servicePhase, faultPoll, State.isFaulted, hc, hk]

/-- R155, R236: while Moving, the motion-completion check; the state it leaves is not Homing. -/
theorem completionChecks_of_moving {s : State} (hc : s.ctrl = .moving) : completionChecks s = motionCompletion s := by
  have hm : (motionCompletion s).ctrl ≠ .homing := by
    rcases motionCompletion_cases s with ⟨_, e⟩ | ⟨_, e⟩ <;> rw [e] <;> simp [hc]
  simp [completionChecks, hc, hm]

/-- R156, R236: while Homing, the homing-completion check. -/
theorem completionChecks_of_homing {s : State} (hc : s.ctrl = .homing) : completionChecks s = homingCompletion s := by
  simp [completionChecks, hc]

/-- R236: with no motion intent, no check. -/
theorem completionChecks_of_at_rest {s : State} (hc : s.ctrl = .idle ∨ s.ctrl = .disabled) :
    completionChecks s = s := by
  rcases hc with hc | hc <;> simp [completionChecks, hc]

/-- R263: each fault is latched as the cause of its name. -/
theorem eq_causeOf {k : PollFault} {c : FaultCause} (hdriver : k = .driver → c = .driver)
    (hlimit1 : k = .limit1 → c = .limit1) (hlimit2 : k = .limit2 → c = .limit2) (hhome : k = .home → c = .home) :
    c = causeOf k := by
  cases k with
  | driver => exact hdriver rfl
  | limit1 => exact hlimit1 rfl
  | limit2 => exact hlimit2 rfl
  | home => exact hhome rfl

/-- Settles O47: `servicePhase_of_polled`, element by element. -/
theorem polledFaultLatchesAndReports : Obligations.PolledFaultLatchesAndReports := by
  intro s k c hp hc hk hdriver hlimit1 hlimit2 hhome
  obtain rfl := eq_causeOf hdriver hlimit1 hlimit2 hhome
  rw [step_of_service hp, servicePhase_of_polled hc hk]
  refine congrArg _ ?_
  apply State.ext <;> simp [hk, frame_cause]

/-- Settles O48: the two forms of the motion-completion check. -/
theorem motionCompletionAtZeroDistance : Obligations.MotionCompletionAtZeroDistance := by
  rintro s _ hp hc hk rfl
  have hstep : step s = .next ((motionCompletion s.callPollFault).setPhase .ingest) := by
    rw [step_of_service hp, servicePhase_of_not_polled (by simp [hc]) hk,
      completionChecks_of_moving (s.callPollFault_ctrl.trans hc)]
  refine ⟨fun hd => hstep.trans (congrArg _ ?zero), fun hd => hstep.trans (congrArg _ ?elsewhere)⟩
  case zero =>
    rw [motionCompletion, if_pos hd]
    apply State.ext <;> simp [hk, hd, frame_done]
  case elsewhere =>
    rw [motionCompletion, if_neg hd]
    apply State.ext <;> simp [hk]

/-- Settles O49: the three forms of the homing-completion check. -/
theorem homingCompletionByStatus : Obligations.HomingCompletionByStatus := by
  rintro s _ _ hp hc hk rfl rfl
  have hstep : step s = .next ((homingCompletion s.callPollFault).setPhase .ingest) := by
    rw [step_of_service hp, servicePhase_of_not_polled (by simp [hc]) hk,
      completionChecks_of_homing (s.callPollFault_ctrl.trans hc)]
  refine ⟨fun h => hstep.trans (congrArg _ ?running), fun h => hstep.trans (congrArg _ ?done),
    fun h => hstep.trans (congrArg _ ?failed)⟩ <;> rw [homingCompletion, h]
  case running => apply State.ext <;> simp [hk, h]
  case done => apply State.ext <;> simp [hk, h, frame_done]
  case failed => apply State.ext <;> simp [hk, h, frame_cause]

/-- Settles O50: Faulted polls nothing, and Idle and Disabled have no completion check. -/
theorem quietServicePhases : Obligations.QuietServicePhases := by
  refine fun s hp => ⟨fun hc => ?faulted, fun hc hk => ?atRest⟩
  case faulted =>
    have hservice : servicePhase s = s.setPhase .ingest := by
      simp [servicePhase, faultPoll, completionChecks, State.isFaulted, hc]
    rw [step_of_service hp, hservice]
    rfl
  case atRest =>
    have hunfaulted : s.ctrl ≠ .faulted := by rcases hc with hc | hc <;> simp [hc]
    rw [step_of_service hp, servicePhase_of_not_polled hunfaulted hk,
      completionChecks_of_at_rest (s := s.callPollFault) hc]
    refine congrArg _ ?_
    apply State.ext <;> simp [hk]

/-! ### The Ingest and Dispatch phases (R237, R238) -/

/-- Settles O51: `run_ingest` on a queue that the codec, Pending, drops whole. -/
theorem pendingFrameSurvivesTheIngestPhase : Obligations.PendingFrameSurvivesTheIngestPhase := by
  intro s hp hr
  have dropped : feedAll s.rxQ { s with rxQ := [] } = .ok { s with rxQ := [] } :=
    feedAll_pending (s := { s with rxQ := [] }) hr s.rxQ
  rw [← Nat.zero_add (s.rxQ.length + 1), run_ingest 0 hp rfl dropped]
  rfl

/-- R133, R238: a frame that decodes is handled by running what it decodes to. -/
theorem handleFrame_of_decode {f : Frame} {i : Instr} (h : decode f = .ok i) (s : State) :
    handleFrame f s = exec i s := by
  simp only [handleFrame, h]

/-- R238: a Pending frame that decodes is taken and run. -/
theorem step_of_decode {s : State} {f : Frame} {i : Instr} (hp : s.phase = .dispatch) (hr : s.rxState = .pending)
    (hb : s.buf = f.bytes) (hd : decode f = .ok i) : step s = toService (exec i s.releaseFrame) := by
  rw [step_of_frame hp hr hb, handleFrame_of_decode hd]

/-- Settles O53: `step_of_decode`, for each outcome of `exec`. -/
theorem stepRunsTheDecodedFrame : Obligations.StepRunsTheDecodedFrame := by
  intro s f i hp hr hb hd
  have hstep : step s = toService (exec i { s with rxState := .waiting, buf := [] }) := step_of_decode hp hr hb hd
  exact ⟨fun t h => by rw [hstep, h]; rfl, fun e h => by rw [hstep, h]; rfl⟩

/-- R7, R78: a well-formed instruction's frame fits the receive buffer, form by form. -/
theorem encode_fits (i : Instr) : Laws.EncodeFits.Statement i := by
  cases i with
  | goto target => exact Laws.EncodeFits.goto target
  | stop => exact Laws.EncodeFits.stop
  | home => exact Laws.EncodeFits.home
  | resetPosition => exact Laws.EncodeFits.resetPosition
  | reset => exact Laws.EncodeFits.reset
  | enable => exact Laws.EncodeFits.enable
  | disable => exact Laws.EncodeFits.disable
  | updateParameters m => exact Laws.EncodeFits.updateParameters m
  | query sub => exact Laws.EncodeFits.query sub
  | echo data => exact Laws.EncodeFits.echo data
  | queryModel => exact Laws.EncodeFits.queryModel
  | querySerial => exact Laws.EncodeFits.querySerial
  | queryFirmware => exact Laws.EncodeFits.queryFirmware
  | queryFaults => exact Laws.EncodeFits.queryFaults
  | queryParameters => exact Laws.EncodeFits.queryParameters
  | queryPosition => exact Laws.EncodeFits.queryPosition
  | queryMode => exact Laws.EncodeFits.queryMode

/-- R70, R117: a deliverable command's wire bytes leave its frame Pending. -/
theorem feedAll_wireBytes {i : Instr} {s : State} (hwf : WellFormed i = true) (hdel : deliverable i = true)
    (hw : s.rxState = .waiting) :
    feedAll (wireBytes i) s = .ok ((s.holdFrame (encode i).bytes).logCodec (some .frameReady)) := by
  obtain ⟨hpos, hcap⟩ := encode_fits i hwf
  have hdata : ∀ b ∈ (encode i).bytes, isMarker b = false := by simpa [deliverable] using hdel
  exact feedAll_frame_of_waiting hw hdata (List.ne_nil_of_length_pos hpos) hcap

/-- R105, R237: the state at Dispatch once the whole queue has been received as one frame with these bytes. -/
def State.received (s : State) (bytes : List Byte) : State :=
  ((State.holdFrame { s with rxQ := [] } bytes).logCodec (some .frameReady)).setPhase .dispatch

/-- R109: the state after that frame is taken. -/
theorem State.releaseFrame_received {s : State} (hw : s.rxState = .waiting) (hbuf : s.buf = []) (bytes : List Byte) :
    (s.received bytes).releaseFrame =
      { s with phase := .dispatch, rxQ := [], history := s.history ++ [.codec .frameReady] } :=
  State.ext hw.symm hbuf.symm rfl rfl rfl rfl rfl rfl rfl rfl

/-- Settles O54: the Ingest phase leaves the frame Pending (`feedAll_wireBytes`), and the Dispatch phase decodes it to the
instruction it encodes (`decodeOfEncodeIsTheInstruction`). -/
theorem queuedCommandIsReceivedAndRun : Obligations.QueuedCommandIsReceivedAndRun := by
  intro s t i hwf hdel hp hw hbuf hq hexec
  have hfed := feedAll_wireBytes (s := { s with rxQ := [] }) hwf hdel hw
  have hstep : step (s.received (encode i).bytes) = .next { t with phase := .service } := by
    rw [step_of_decode (f := encode i) rfl rfl rfl (decodeOfEncodeIsTheInstruction i hwf),
      State.releaseFrame_received hw hbuf, hexec]
    rfl
  calc Host.Core.run Sys2Proof.core ((wireBytes i).length + 2) s
      = Host.Core.run Sys2Proof.core (1 + ((wireBytes i).length + 1)) s := by rw [Nat.add_comm 1]
    _ = Host.Core.run Sys2Proof.core 1 (s.received (encode i).bytes) := run_ingest 1 hp hq hfed
    _ = .next { t with phase := .service } := core_run_succ 0 hstep

/-- Settles O55: Service leaves the codec alone, and Dispatch in Reading finds no frame. -/
theorem partialFrameSurvivesServiceAndDispatch : Obligations.PartialFrameSurvivesServiceAndDispatch := by
  intro s t h
  refine ⟨fun hp => ?service, fun hp hr => ?dispatch⟩
  case service =>
    cases (step_of_service hp).symm.trans h
    obtain ⟨hrx, hbuf, hq, hdiag, _⟩ := servicePhase_keeps s
    exact ⟨hrx, hbuf, hq, hdiag⟩
  case dispatch =>
    cases (step_of_no_frame hp (by simp [hr])).symm.trans h
    rfl

/-! ### The enable line (R25) -/

/-- Settles O60: outside a dispatched rule the line persists, and the rules that write it are ENABLE's and DISABLE's
(`ruleOf_drvEn`). -/
theorem enableLineChangesOnlyByItsCommands : Obligations.EnableLineChangesOnlyByItsCommands := by
  intro s t hstep hchanged
  rcases step_control hstep with rfl | same | ⟨i, s', r, hdisp, _, hrule, same⟩
  · obtain ⟨_, _, _, _, _, _, hline⟩ := servicePhase_keeps s
    exact absurd hline hchanged
  · exact absurd same.drvEn hchanged
  · rw [same.drvEn] at hchanged ⊢
    rcases ruleOf_drvEn hrule with hkept | ⟨rfl, hon⟩ | ⟨rfl, hoff⟩
    · exact absurd hkept hchanged
    · exact .inl ⟨hdisp, hon⟩
    · exact .inr ⟨hdisp, hoff⟩

/-! ### The logs only grow (R31) -/

/-- R110: the codec only adds to the history. -/
theorem feed_history {b : Byte} {s t : State} (h : feed b s = .ok t) : s.history <+: t.history := by
  rcases feed_ok h with rfl | rfl | ⟨r, rfl⟩ | ⟨_, _, rfl⟩ | ⟨_, _, _, rfl⟩ <;> simp

/-- R236: so does the Service phase. -/
theorem servicePhase_history (s : State) : s.history <+: (servicePhase s).history := by
  rcases servicePhase_cases s with ⟨_, e⟩ | ⟨_, k, _, e⟩ | ⟨_, _, e⟩ | ⟨_, _, e⟩ | ⟨_, _, e⟩ <;> rw [e]
  · simp
  · simp
  · simp
  · rcases motionCompletion_cases s.callPollFault with ⟨_, e'⟩ | ⟨_, e'⟩ <;> rw [e'] <;> simp
  · rcases homingCompletion_cases s.callPollFault with ⟨_, e'⟩ | ⟨_, e'⟩ | ⟨_, e'⟩ <;> rw [e'] <;> simp

/-- R205: so does QUERY(FAULTS). -/
theorem faultsRule_history {s s' : State} {r : Reply} (h : faultsRule s = .ok (s', r)) : s.history <+: s'.history := by
  rcases faultsRule_ok h with ⟨_, rfl, _⟩ | ⟨_, hread⟩
  · exact List.prefix_rfl
  · obtain ⟨rfl, _⟩ := Prod.mk.inj hread
    simp

/-- R31: so does every rule of a command. -/
theorem ruleOf_history {i : Instr} {s s' : State} {r : Reply} (h : ruleOf i s = .ok (s', r)) :
    s.history <+: s'.history := by
  cases i
  case updateParameters m =>
    rcases updateParametersRule_ok h with ⟨_, rfl, _⟩ | ⟨_, n, _, ⟨rfl, _⟩ | ⟨rfl, _⟩⟩ <;>
      simp [polled_history, afterSetters_history]
  case reset =>
    rcases resetRule_ok h with ⟨_, rfl, _⟩ | ⟨_, _, rfl, _⟩ | ⟨_, _, rfl, _⟩
    · simp [clearSucceeded_eq]
    · simp
    · simp
  case query sub =>
    rcases queryRule_cases sub with e | e | e | e | e | e | e | e <;> simp only [ruleOf, e] at h
    case inr.inr.inr.inl => exact faultsRule_history h
    all_goals (cases h; simp)
  case queryFaults => exact faultsRule_history h
  case disable => cases h; cases s.inMotion <;> simp
  all_goals (cases h; simp)

/-- R31, R224: so does handling a frame. -/
theorem handleFrame_history {f : Frame} {s t : State} (h : handleFrame f s = .next t) : s.history <+: t.history := by
  rcases handleFrame_next h with ⟨_, _, _, _, rfl⟩ | ⟨_, _, _, rfl⟩ | ⟨i, s', r, _, _, hrule, rfl⟩
  · exact List.prefix_append _ _
  · exact List.prefix_append _ _
  · exact (ruleOf_history hrule).trans (List.prefix_append _ _)

/-- R31: so does a step, in every phase. -/
theorem step_history {s t : State} (h : step s = .next t) : s.history <+: t.history := by
  rcases step_next h with ⟨_, rfl⟩ | ⟨_, _, rfl⟩ | ⟨_, b, q, _, hfeed⟩ | ⟨_, _, rfl⟩ | ⟨_, _, f, u, _, hu, rfl⟩
  · exact servicePhase_history s
  · exact List.prefix_rfl
  · exact feed_history (s := s.dropRead) hfeed
  · exact List.prefix_rfl
  · exact (handleFrame_history hu : s.releaseFrame.history <+: u.history)

/-- Settles O7: the host appends no event, and a core step only adds. -/
theorem historyIsAppendOnly : Obligations.HistoryIsAppendOnly := by
  intro s t turn h
  cases turn with
  | core => exact step_history h
  | host b => cases h; exact List.prefix_rfl

/-! ### Where the model stops (R248) -/

/-- R248: an instruction stops where its rule does. -/
theorem exec_of_rule_error {i : Instr} {s : State} {e : Fault} (hg : gatePasses (commandOf i) s.ctrl = true)
    (h : ruleOf i s = .error e) : exec i s = .fault e := by
  rw [exec_eq_runCommand]
  simp only [runCommand, hg, h, if_true]

/-- R22, R106, R108: a DATA byte in Reading with more than the capacity buffered. -/
theorem feed_over_capacity {s : State} {b : Byte} (h : s.rxState = .reading) (hb : isMarker b = false)
    (hl : Config.pCap < s.buf.length) : feed b s = .error .bufferOverCapacity := by
  simp only [feed, h, feedReading, classOf_data hb, if_neg (Nat.lt_asymm hl), if_neg (Nat.ne_of_gt hl)]

/-- Settles O5: each combination run to the operation that has no rule for it. -/
theorem uncoveredCombinationsFaultByName : Obligations.UncoveredCombinationsFaultByName := by
  intro s
  refine ⟨fun hf hc => ?faults, fun hf hc hclear => ?reset, fun hp hr hb => ?emptyFrame,
    fun b q hp hr hq hstart hend hl => ?overCapacity⟩
  case faults =>
    refine exec_of_rule_error (i := .queryFaults) (gatePasses_query _) ?_
    simp [ruleOf, faultsRule, State.isFaulted, State.causeReply, hf, hc, Except.map]
  case reset =>
    refine exec_of_rule_error (i := .reset) (gatePasses_reset _) ?_
    simp [ruleOf, resetRule, State.isFaulted, State.causeReply, hf, hc, hclear, Except.map]
  case emptyFrame => simp only [step, hp, dispatchPhase, takeFrame, hr, hb, Frame.ofBytes?]
  case overCapacity =>
    have hfeed : feed b s.dropRead = .error .bufferOverCapacity :=
      feed_over_capacity hr ((isMarker_eq_false_iff b).2 ⟨hstart, hend⟩) hl
    simp only [step, hp, ingestStep, hq, hfeed]

end Sys2Proof.Machine
end
